-- ==== Sys2Proof/Word.lean ====
section
/-! DEFINITION. The word types of the DrumBoard core block (spec/00_scope.md R9, R10; 30_encoding.md R80) and
`Quad`, four values indexed by a pad or voice number 0 to 3 (R9: "an array element is `name[i]` with `i` a pad index or voice
index 0 to 3"). Plain data, so that states compare and print. -/

namespace Sys2Proof

/-- `u16` of R10: baselines, readings, the threshold (`W_BASE` = 16), and every voice and pulse counter. -/
abbrev U16 := BitVec 16

/-- `u32` of R10: `timeout_counter` and `quiet_counter` (`W_CNT` = 32). -/
abbrev U32 := BitVec 32

/-- `i32` of R10, two's complement: `delta` (`W_DELTA` = 32). Its mathematical value is `BitVec.toInt`. -/
abbrev I32 := BitVec 32

/-- One command word `cmd[39:0]` (30_encoding.md R80). -/
abbrev CmdWord := BitVec 40

/-- A pad index 0 to 3 (20_memory.md R61; `NPADS` = 4). -/
abbrev PadIdx := Fin 4

/-- Four values of one type, one for each index 0 to 3. -/
structure Quad (α : Type) where
  p0 : α
  p1 : α
  p2 : α
  p3 : α
  deriving DecidableEq, Repr

/-- `name[i]`, read. -/
def Quad.get {α : Type} (q : Quad α) (i : Fin 4) : α :=
  match i with
  | 0 => q.p0
  | 1 => q.p1
  | 2 => q.p2
  | 3 => q.p3

/-- `name[i] <- x`. -/
def Quad.set {α : Type} (q : Quad α) (i : Fin 4) (x : α) : Quad α :=
  match i with
  | 0 => { q with p0 := x }
  | 1 => { q with p1 := x }
  | 2 => { q with p2 := x }
  | 3 => { q with p3 := x }

/-- `for i in 0..3: name[i] <- f name[i]`. -/
def Quad.map {α β : Type} (f : α → β) (q : Quad α) : Quad β :=
  { p0 := f q.p0, p1 := f q.p1, p2 := f q.p2, p3 := f q.p3 }

/-- The same value at all four indices. -/
def Quad.fill {α : Type} (x : α) : Quad α :=
  { p0 := x, p1 := x, p2 := x, p3 := x }

/-- The test holds at all four indices. -/
def Quad.all {α : Type} (test : α → Bool) (q : Quad α) : Bool :=
  test q.p0 && test q.p1 && test q.p2 && test q.p3

end Sys2Proof
end

