-- ==== Sys2Proof/Config.lean ====
section
/-! DEFINITION. The configuration (spec/00_scope.md section 3): the constants of R5, each under its own name, and the open
parameters of R6. The machine's state carries one `Config` (assumption log 1) and every rule takes both kinds from it, so that
"a corrected literal is a configuration change and not a change of semantics" (R8). -/

namespace Sys2Proof

/-- The four voices, ids 0 Bass, 1 Snare, 2 Buzz, 3 HiHat (00_scope.md R14, 10_state.md R38; `NVOICES` = 4). -/
inductive VoiceId where
  | bass
  | snare
  | buzz
  | hihat
  deriving DecidableEq, Repr

/-- The constants of 00_scope.md R5, "given a name so that a model carries it in its configuration". The source's values are
`Constants.source`; which other values the model's types can hold, `Constants.fit` (WellFormed.lean) says (assumption log
13). -/
structure Constants where
  /-- `NPADS`, touch pads. -/
  nPads : Nat
  /-- `NVOICES`, voices. -/
  nVoices : Nat
  /-- `W_BASE`, the width of `baseline`, `measured`, `backup` and `threshold`. -/
  wBase : Nat
  /-- `W_DELTA`, the width of `delta`. -/
  wDelta : Nat
  /-- `W_CNT`, the width of `timeout_counter` and `quiet_counter`. -/
  wCnt : Nat
  /-- `THRESHOLD_INIT`, at reset and after recovery. -/
  thresholdInit : U16
  /-- `MIN_LEVEL`, the idle scan's "minimum usable level". -/
  minLevel : Int
  /-- `CAL_ROUNDS`, averaging rounds after the seed reading. -/
  calRounds : Nat
  /-- `DRIFT_STEP`, upward drift per idle cycle. -/
  driftStep : U16
  /-- `TIMEOUT_FACTOR` of `TIMEOUT_RELOAD`. -/
  timeoutFactor : Nat
  /-- `LFSR1_WIDTH`. -/
  lfsr1Width : Nat
  /-- `LFSR1_TAPS`, a parameter by 93_implementation_defined.md U12. -/
  lfsr1Taps : List Nat
  /-- `LFSR2_WIDTH`. -/
  lfsr2Width : Nat
  /-- `LFSR2_TAPS`. -/
  lfsr2Taps : List Nat
  /-- `LFSR_SEED`, the reset value of both shift registers. -/
  lfsrSeed : Nat
  /-- `PRESS_DIV`, the adapter's divisor in its pressed branch. -/
  pressDiv : Int
  /-- `IDLE_DIV`, the adapter's divisor in its idle branch. -/
  idleDiv : Int
  deriving DecidableEq, Repr

/-- The source's literals, "normative" though unaudited: the tap 4 of the first register stands (R5, R8). -/
def Constants.source : Constants where
  nPads := 4
  nVoices := 4
  wBase := 16
  wDelta := 32
  wCnt := 32
  thresholdInit := 100
  minLevel := 30
  calRounds := 15
  driftStep := 1
  timeoutFactor := 3
  lfsr1Width := 16
  lfsr1Taps := [15, 14, 12, 4]
  lfsr2Width := 15
  lfsr2Taps := [14, 13]
  lfsrSeed := 1
  pressDiv := 4
  idleDiv := 2

/-- A configuration: the constants of R5, and the open parameters of 00_scope.md R6, whose values no rule gives. -/
structure Config where
  /-- The constants of R5. -/
  constants : Constants
  /-- `SAMPLE_RATE`, an integer, used only in `TIMEOUT_RELOAD`. -/
  sampleRate : Nat
  /-- `QUIET_RELOAD`. -/
  quietReload : U32
  /-- `PULSES_ACTIVE`. -/
  pulsesActive : U16
  /-- `PULSES_RELAXED`. -/
  pulsesRelaxed : U16
  /-- `VOICE_OF_PAD`. -/
  voiceOfPad : Quad VoiceId
  /-- `BASS_PERIOD_START`. -/
  bassPeriodStart : U16
  /-- `BASS_PERIOD_END`. -/
  bassPeriodEnd : U16
  /-- `BASS_GLISS_TICKS`. -/
  bassGlissTicks : U16
  /-- `BASS_ECHO_TICKS`. -/
  bassEchoTicks : U16
  /-- `BASS_PERIOD_AT`: `none` where the configuration does not supply it (the default law of 42_voices.md R162 is then
  used); `some table` holds its values at ticks 0, 1, …, `BASS_GLISS_TICKS` − 1 (`BASS_PERIOD_END` where the table ends
  early). From `BASS_GLISS_TICKS` on R7 fixes it to `BASS_PERIOD_END`, so a table loses nothing (assumption log 3). -/
  bassPeriodTable : Option (List U16)
  /-- `SNARE_RES_PERIOD`. -/
  snareResPeriod : U16
  /-- `SNARE_P1_TICKS`. -/
  snareP1Ticks : U16
  /-- `SNARE_P2_TICKS`. -/
  snareP2Ticks : U16
  /-- `BUZZ_PERIOD`. -/
  buzzPeriod : U16
  /-- `HIHAT_TICKS`. -/
  hihatTicks : U16
  deriving DecidableEq, Repr

namespace Config

/-- The source's constants with the illustrative parameters of 95_test_vectors.md section 1: "not the device's values".
`Machine.State.reset` carries it because a state must carry some configuration (DESIGN CHOICE, assumption log 2); no statement
rests on the parameters' values. -/
def illustrative : Config where
  constants := Constants.source
  sampleRate := 2
  quietReload := 3
  pulsesActive := 2
  pulsesRelaxed := 4
  voiceOfPad := { p0 := .bass, p1 := .snare, p2 := .buzz, p3 := .hihat }
  bassPeriodStart := 2
  bassPeriodEnd := 4
  bassGlissTicks := 8
  bassEchoTicks := 8
  bassPeriodTable := none
  snareResPeriod := 3
  snareP1Ticks := 8
  snareP2Ticks := 4
  buzzPeriod := 3
  hihatTicks := 8

end Config

end Sys2Proof
end

