-- ==== Sys2Proof/Syntax.lean ====
section
/-! DEFINITION. The commands (spec/30_encoding.md R82): one constructor per row of spec/opcode_table.json. The operands have
the types of R83 and R84, in which every value is in range (20_memory.md R61: "no index can fault"); `CmdFields` is the one
layout of R80 before decoding, where a word can still be reserved. -/

namespace Sys2Proof

/-- The six commands of R82. -/
inductive Instr where
  /-- `NOP`, format Z (43_noise.md R185). -/
  | nop
  /-- `MEAS p, A, B`, format M (40_sensing_calibration.md R100). -/
  | meas (p : PadIdx) (a : U16) (b : U16)
  /-- `CYCLE`, format Z (40_sensing_calibration.md R106). -/
  | cycle
  /-- `TICK`, format Z (42_voices.md R156). -/
  | tick
  /-- `TRIG v`, format P (42_voices.md R150). -/
  | trig (v : VoiceId)
  /-- `NOISE`, format Z (43_noise.md R183). -/
  | noise
  deriving DecidableEq, Repr

/-- The five fields of a command word (R80). -/
structure CmdFields where
  /-- bits 39:36 -/
  op : BitVec 4
  /-- bits 35:34 -/
  p : BitVec 2
  /-- bits 33:32 -/
  rsv : BitVec 2
  /-- bits 31:16 -/
  a : U16
  /-- bits 15:0 -/
  b : U16
  deriving DecidableEq, Repr

/-- Why a word is reserved: the classes R87 lists. The block treats all of them alike (R88). -/
inductive Reserved where
  /-- "every word with `rsv ≠ 0`" -/
  | rsvNotZero
  /-- "every word with `op` in 6 to 15" -/
  | opcode
  /-- "every word of a format Z command with any of `p`, `A`, `B` non-zero; every `TRIG` word with `A` or `B` non-zero" -/
  | operandNotZero
  deriving DecidableEq, Repr

end Sys2Proof
end

