-- ==== Sys2Proof/WellFormed.lean ====
section
/-! DEFINITION. What must hold before the rules apply: the fields of a command word are not reserved (spec/30_encoding.md
R87), and a configuration meets 00_scope.md R7 with constants that fit the model's types. A term of `Instr` needs no check of
its own: its operand types hold exactly the values R83 and R84 allow. -/

namespace Sys2Proof

/-- The word is not one of the reserved encodings of R87, written from that list and not from the decoder of R85. -/
def CmdFields.wellFormed (f : CmdFields) : Bool :=
  f.rsv == 0 && decide (f.op.toNat < 6)
    && (f.op == 1 || (f.a == 0 && f.b == 0))
    && (f.op == 1 || f.op == 4 || f.p == 0)

/-- The constants fit the model's types (assumption log 13): the counts and widths of R5 are the types' own, `cal_rounds` can
count to `CAL_ROUNDS` in its 4 bits (10_state.md R28), taps name bits of their register, each once, the seed is a value of both registers,
and R11's `a / b` has `b > 0`. -/
def Constants.fit (k : Constants) : Bool :=
  k.nPads == 4 && (k.nVoices == 4 && (k.wBase == 16 && (k.wDelta == 32 && (k.wCnt == 32
    && (k.lfsr1Width == 16 && (k.lfsr2Width == 15
    && (decide (1 ≤ k.calRounds) && (decide (k.calRounds ≤ 15)
    && (k.lfsr1Taps.all (fun t => decide (t < 16)) && (decide k.lfsr1Taps.Nodup
    && (k.lfsr2Taps.all (fun t => decide (t < 15)) && (decide k.lfsr2Taps.Nodup
    && (decide (k.lfsrSeed < 2 ^ 15) && (decide (1 ≤ k.pressDiv) && decide (1 ≤ k.idleDiv)))))))))))))))

namespace Config

/-- From `lo`, through the listed values, to `hi`, nothing falls: R7's "`BASS_PERIOD_AT` is non-decreasing" for a law that
holds `hi` from the end of the list on. -/
def rises (lo hi : U16) : List U16 → Bool
  | [] => decide (lo.toNat ≤ hi.toNat)
  | x :: xs => decide (lo.toNat ≤ x.toNat) && rises x hi xs

/-- R7 for the sweep law. A supplied law starts at `BASS_PERIOD_START` and never falls on its way to `BASS_PERIOD_END`: its
values at ticks 0 to `BASS_GLISS_TICKS` − 1 are the table's (a tick the table does not reach has `BASS_PERIOD_END`). The default
law of 42_voices.md R162 needs no check ("It meets the constraints"). -/
def sweepOk (c : Config) : Bool :=
  match c.bassPeriodTable with
  | none => true
  | some table =>
    table.getD 0 c.bassPeriodEnd == c.bassPeriodStart
      && rises c.bassPeriodStart c.bassPeriodEnd (table.take c.bassGlissTicks.toNat)

/-- 00_scope.md R7, the constraints "a configuration must meet before any rule of this spec applies", as "one decidable
well-formedness predicate", for constants that fit. Those missing here hold by type: `VOICE_OF_PAD` is total with values in 0
to 3, `BASS_PERIOD_END` and `HIHAT_TICKS` are at most 65535. -/
def ok (c : Config) : Bool :=
  c.constants.fit && (decide (1 ≤ c.constants.timeoutFactor * c.sampleRate)
    && (decide (c.constants.timeoutFactor * c.sampleRate ≤ 2 ^ 32 - 1)
    && (decide (1 ≤ c.pulsesActive.toNat) && (decide (1 ≤ c.pulsesRelaxed.toNat)
    && (decide (1 ≤ c.bassPeriodStart.toNat) && (decide (c.bassPeriodStart.toNat ≤ c.bassPeriodEnd.toNat)
    && (decide (1 ≤ c.bassGlissTicks.toNat)
    && (decide (c.bassGlissTicks.toNat + c.bassEchoTicks.toNat ≤ 65535) && (c.sweepOk
    && (decide (1 ≤ c.snareResPeriod.toNat) && (decide (c.snareP2Ticks.toNat < c.snareP1Ticks.toNat)
    && (decide (c.snareP1Ticks.toNat + c.snareP2Ticks.toNat ≤ 65535)
    && decide (1 ≤ c.buzzPeriod.toNat)))))))))))))

end Config

end Sys2Proof
end

