-- ==== Sys2Proof/Decode.lean ====
section
/-! DEFINITION. The decoder of spec/30_encoding.md R85, total on 40-bit words and rejecting by name, and after it an encoder
written from R80 to R82. A command word is one parallel value with no byte order (20_memory.md R62). -/

namespace Sys2Proof

/-- `VoiceId` from the number in field `p` (R83). -/
def VoiceId.ofIdx (i : Fin 4) : VoiceId :=
  match i with
  | 0 => .bass
  | 1 => .snare
  | 2 => .buzz
  | 3 => .hihat

/-- The number of a voice (R83). -/
def VoiceId.idx : VoiceId → Fin 4
  | .bass => 0
  | .snare => 1
  | .buzz => 2
  | .hihat => 3

/-- Field `p` as an index 0 to 3: "used as it stands" (R83). -/
def idxOfBits (p : BitVec 2) : Fin 4 := ⟨p.toNat, p.isLt⟩

/-- An index 0 to 3 as the bits of field `p`. -/
def bitsOfIdx (i : Fin 4) : BitVec 2 := BitVec.ofNat 2 i.val

/-- The five fields of a word (R80). -/
def fieldsOf (w : CmdWord) : CmdFields where
  op := w.extractLsb' 36 4
  p := w.extractLsb' 34 2
  rsv := w.extractLsb' 32 2
  a := w.extractLsb' 16 16
  b := w.extractLsb' 0 16

/-- R85, arm by arm; "The last arm refuses: any shape nobody listed is `ILLEGAL`". -/
def decodeFields (f : CmdFields) : Except Reserved Instr :=
  if f.rsv ≠ 0 then .error .rsvNotZero
  else if f.op = 0 ∧ f.p = 0 ∧ f.a = 0 ∧ f.b = 0 then .ok .nop
  else if f.op = 1 then .ok (.meas (idxOfBits f.p) f.a f.b)
  else if f.op = 2 ∧ f.p = 0 ∧ f.a = 0 ∧ f.b = 0 then .ok .cycle
  else if f.op = 3 ∧ f.p = 0 ∧ f.a = 0 ∧ f.b = 0 then .ok .tick
  else if f.op = 4 ∧ f.a = 0 ∧ f.b = 0 then .ok (.trig (VoiceId.ofIdx (idxOfBits f.p)))
  else if f.op = 5 ∧ f.p = 0 ∧ f.a = 0 ∧ f.b = 0 then .ok .noise
  else if f.op.toNat < 6 then .error .operandNotZero
  else .error .opcode

/-- R85: "Decoding is a total function on 40-bit words and reads no state". -/
def decode (w : CmdWord) : Except Reserved Instr := decodeFields (fieldsOf w)

/-- The instruction the decoder reads from an instruction whose bits are `w`, numbered as spec/opcode_table.json numbers them:
all rows have 40 bits and a word is one value with bit 0 least significant, so that number is the word itself. -/
def decodeTableWord (nbits w : Nat) : Option Instr :=
  match decode (BitVec.ofNat 40 (w % 2 ^ nbits)) with
  | .ok i => some i
  | .error _ => none

/-- A word from its fields (R80), `rsv` zero. -/
def assemble (op : BitVec 4) (p : BitVec 2) (a b : U16) : CmdWord :=
  op ++ p ++ (0 : BitVec 2) ++ a ++ b

/-- The word of a command: formats Z, P and M of R81 with the opcodes of R82. -/
def encode : Instr → CmdWord
  | .nop => assemble 0 0 0 0
  | .meas p a b => assemble 1 (bitsOfIdx p) a b
  | .cycle => assemble 2 0 0 0
  | .tick => assemble 3 0 0 0
  | .trig v => assemble 4 (bitsOfIdx v.idx) 0 0
  | .noise => assemble 5 0 0 0

end Sys2Proof
end

