-- ==== Sys2Proof/Machine/State.lean ====
section
/-! DEFINITION. The state of the DrumBoard core block: every element of spec/10_state.md section 7 (R48), and three fields of
the model's own that Host.Core's `step : State → …` needs (the configuration and the command stream, which R13 gives the step
as arguments, and the response, which R13 gives as its result): assumption log 1, 4, 5. -/

namespace Sys2Proof.Machine

/-- The lifecycle register (10_state.md R27): "2 bits, values `SEED = 0`, `CAL = 1`, `RUN = 2`; value 3 is never taken". -/
inductive Mode where
  | seed
  | cal
  | run
  deriving DecidableEq, Repr

/-- One pad's registers (10_state.md R20). -/
structure Pad where
  /-- R21 -/
  baseline : U16
  /-- R22 -/
  measured : U16
  /-- R23 -/
  measValid : Bool
  /-- R24 -/
  delta : I32
  /-- R25, the pad's part of the BaselineBackup -/
  backup : U16
  /-- R29 -/
  pressed : Bool
  /-- R29 -/
  pressedPrev : Bool
  deriving DecidableEq, Repr

/-- One voice's private counters (10_state.md R38). -/
structure Voice where
  phase : U16
  period : U16
  divider : U16
  deriving DecidableEq, Repr

/-- The step's result beside the state (00_scope.md R13), on the ports of 20_memory.md R65: "all fields false or `None`
unless a rule sets them". -/
structure Response where
  wake : Bool
  nbit : Bool
  evTrig : Option VoiceId
  evRecover : Bool
  deriving DecidableEq, Repr

/-- The response of a step that sets nothing. -/
def Response.quiet : Response := { wake := false, nbit := false, evTrig := none, evRecover := false }

/-- What the environment presents at one rising edge of `clk`: the inputs of 20_memory.md R65. -/
structure PortInput where
  /-- reset request (70_reset_and_hazards.md R220) -/
  rst : Bool
  /-- a command is presented -/
  cmdValid : Bool
  /-- the command word -/
  cmd : CmdWord
  deriving DecidableEq, Repr

/-- The machine. -/
structure State where
  /-- The configuration, R13's first argument (the model's own field, assumption log 1); no step writes it (20_memory.md
  R70). -/
  cfg : Config
  /-- What the environment is going to present, oldest first (the model's own field, assumption log 4). -/
  inputs : List PortInput
  /-- The response of the step just executed (the model's own field, assumption log 5). -/
  resp : Response
  /-- The pad register file (R20 to R25, R29). -/
  pads : Quad Pad
  /-- `mode` (R27). -/
  mode : Mode
  /-- `cal_rounds` (R28), 4 bits. -/
  calRounds : BitVec 4
  /-- `threshold` (R33). -/
  threshold : U16
  /-- `active_key` (R34). -/
  activeKey : Option PadIdx
  /-- `active_key_prev` (R34). -/
  activeKeyPrev : Option PadIdx
  /-- `timeout_counter` (R35). -/
  timeoutCounter : U32
  /-- `quiet_counter` (R36). -/
  quietCounter : U32
  /-- `sel` (R37). -/
  sel : Option VoiceId
  /-- The voice register file (R38 to R42), voice id as index. -/
  voices : Quad Voice
  /-- `lfsr1` (R43). -/
  lfsr1 : BitVec 16
  /-- `lfsr2` (R44). -/
  lfsr2 : BitVec 15
  /-- `snd` (R30). -/
  snd : Bool
  /-- `pulse_counter` (R47). -/
  pulseCounter : U16
  /-- `err_illegal` (R31). -/
  errIllegal : Bool
  /-- `err_stale` (R31). -/
  errStale : Bool
  deriving DecidableEq, Repr

/-- Why the machine stops with a fault: never. "No operation is retried beyond this one recovery path; there is no
fatal/abort path in the core" (60_exceptions.md R193 (e)); the three events of R191 all go on with a next state
(`Machine.Cause`, `Machine.raise`). The type has no constructor: no instruction raises one (safe and complete: the spec has
none). -/
inductive Fault where
  deriving DecidableEq, Repr

/-- Why the model gives no meaning. -/
inductive Refusal where
  /-- Raised by `exec` for an instruction that has no meaning yet (safe); no arm does. -/
  | notModelled (mnemonic : String)
  /-- Raised by `step` when the configuration the state carries fails 00_scope.md R7: "a configuration that fails is refused"
  (safe: "no rule of the spec applies to it", 93_implementation_defined.md U9), or has constants that the model's types cannot
  hold (safe, assumption log 13). -/
  | configRejected
  deriving DecidableEq, Repr

/-- A pad at reset (R48). -/
def Pad.reset : Pad where
  baseline := 0
  measured := 0
  measValid := false
  delta := 0
  backup := 0
  pressed := false
  pressedPrev := false

/-- A voice at reset (R48): dormant. -/
def Voice.dormant : Voice where
  phase := 0
  period := 0
  divider := 0

/-- The state after reset (R48) under the configuration `c`, nothing presented. -/
def State.resetWith (c : Config) : State where
  cfg := c
  inputs := []
  resp := Response.quiet
  pads := Quad.fill Pad.reset
  mode := .seed
  calRounds := 0
  threshold := c.constants.thresholdInit
  activeKey := none
  activeKeyPrev := none
  timeoutCounter := 0
  quietCounter := 0
  sel := none
  voices := Quad.fill Voice.dormant
  lfsr1 := BitVec.ofNat 16 c.constants.lfsrSeed
  lfsr2 := BitVec.ofNat 15 c.constants.lfsrSeed
  snd := false
  pulseCounter := c.pulsesRelaxed
  errIllegal := false
  errStale := false

/-- The machine right after reset (R48). The configuration it carries has R5's constants and the spec's illustrative
parameters (DESIGN CHOICE, assumption log 2); everything else is R48's value under it. -/
def State.reset : State := State.resetWith Config.illustrative

end Sys2Proof.Machine
end

