-- ==== Sys2Proof/Machine/Operands.lean ====
section
/-! DEFINITION. The arithmetic primitives of spec/00_scope.md R11, the values derived from the configuration (R6, 42_voices.md
R162), and reading and writing one pad or one voice. -/

namespace Sys2Proof.Machine

/-- `avg16` (R11): "the sum is formed at 17 bits, is not truncated before the division", floor. -/
def avg16 (x y : U16) : U16 := BitVec.ofNat 16 ((x.toNat + y.toNat) / 2)

/-- `inc16` (R11): `(x + 1) mod 2^16`, the 1 being `DRIFT_STEP` (R5), here `step`. -/
def inc16 (step x : U16) : U16 := x + step

/-- `dec32` (R11): `(x − 1) mod 2^32`. -/
def dec32 (x : U32) : U32 := x - 1

/-- The elapsed count the environment hands over as `A` or `B`: `(t1 − t0) mod 2^16` (40_sensing_calibration.md R103). The source
does not give the timer's width (91_not_in_source.md N3): a snapshot is a number of any size (DESIGN CHOICE, assumption log
18). -/
def elapsedCount (t0 t1 : Nat) : U16 := BitVec.ofInt 16 ((t1 : Int) - t0)

/-- `TIMEOUT_RELOAD = TIMEOUT_FACTOR × SAMPLE_RATE` (R5, R6). -/
def timeoutReload (c : Config) : U32 := BitVec.ofNat 32 (c.constants.timeoutFactor * c.sampleRate)

/-- `BASS_PERIOD_AT(t)`: the supplied law, or the default sweep of 42_voices.md R162; `BASS_PERIOD_END` from
`BASS_GLISS_TICKS` on (R7). -/
def bassPeriodAt (c : Config) (t : Nat) : U16 :=
  if t < c.bassGlissTicks.toNat then
    match c.bassPeriodTable with
    | some table => table.getD t c.bassPeriodEnd
    | none =>
      BitVec.ofNat 16
        (c.bassPeriodStart.toNat
          + t * (c.bassPeriodEnd.toNat - c.bassPeriodStart.toNat) / c.bassGlissTicks.toNat)
  else c.bassPeriodEnd

/-- The ticks a bass sounds: `BASS_GLISS_TICKS + BASS_ECHO_TICKS` (42_voices.md R158). -/
def bassTotal (c : Config) : Nat := c.bassGlissTicks.toNat + c.bassEchoTicks.toNat

/-- The ticks a snare sounds: `SNARE_P1_TICKS + SNARE_P2_TICKS` (42_voices.md R159). -/
def snareTotal (c : Config) : Nat := c.snareP1Ticks.toNat + c.snareP2Ticks.toNat

/-- Pad `i`'s registers. -/
def State.pad (s : State) (i : PadIdx) : Pad := s.pads.get i

/-- Write pad `i`'s registers. -/
def State.setPad (s : State) (i : PadIdx) (x : Pad) : State := { s with pads := s.pads.set i x }

/-- Rewrite every pad's registers from themselves: `for i in 0..3`, the pads independent. -/
def State.mapPads (f : Pad → Pad) (s : State) : State := { s with pads := s.pads.map f }

/-- Voice `v`'s counters. -/
def State.voice (s : State) (v : VoiceId) : Voice := s.voices.get v.idx

/-- Write voice `v`'s counters. -/
def State.setVoice (s : State) (v : VoiceId) (x : Voice) : State := { s with voices := s.voices.set v.idx x }

/-- Drive the response ports of 20_memory.md R65. -/
def State.respond (s : State) (r : Response) : State := { s with resp := r }

end Sys2Proof.Machine
end

