-- ==== Sys2Proof/Machine/Flags.lean ====
section
/-! DEFINITION. The flags of spec/10_state.md section 3: freshness, the per-cycle pressed flags, and the two sticky error
flags. "There are no arithmetic condition codes" (R32). -/

namespace Sys2Proof.Machine

/-- `meas_valid = 1111` (40_sensing_calibration.md R106). -/
def allFresh (s : State) : Bool := s.pads.all (·.measValid)

/-- `meas_valid[0..3] <- 0` (40_sensing_calibration.md R106). -/
def clearFresh (s : State) : State := s.mapPads fun p => { p with measValid := false }

/-- The press decision for one pad: `delta[i] > thr0`, a strict comparison of mathematical integers
(41_cycle_tracker_threshold_key.md R122). -/
def exceeds (thr0 : U16) (p : Pad) : Bool := decide ((thr0.toNat : Int) < p.delta.toInt)

/-- A rising edge: `pressed[i] = 1 and pressed_prev[i] = 0` (41_cycle_tracker_threshold_key.md R135). -/
def Pad.rose (p : Pad) : Bool := p.pressed && !p.pressedPrev

/-- `flag err_illegal` (60_exceptions.md R192). -/
def flagIllegal (s : State) : State := { s with errIllegal := true }

/-- `flag err_stale` (60_exceptions.md R192). -/
def flagStale (s : State) : State := { s with errStale := true }

end Sys2Proof.Machine
end

