-- ==== Sys2Proof/Machine/Ops.lean ====
section
/-! DEFINITION. The operations several commands share: the noise source's `next_bit()`, the output line's `toggle()`, the
internal `TRIG(v)`, raising one of the three events of spec/60_exceptions.md R191, and taking in what the ports present. -/

namespace Sys2Proof.Machine

/-- The exclusive or of the tapped bits of a shift register (43_noise.md R180). -/
def feedback {n : Nat} (taps : List Nat) (r : BitVec n) : Bool :=
  taps.foldr (fun k acc => r.getLsbD k ^^ acc) false

/-- `lfsr1 <- { lfsr1[14:0], fb1 }` (43_noise.md R180), the taps an argument (93_implementation_defined.md U12). -/
def lfsr1Next (taps : List Nat) (r : BitVec 16) : BitVec 16 := (r.setWidth 15).concat (feedback taps r)

/-- `lfsr2 <- { lfsr2[13:0], fb2 }` (43_noise.md R180), the taps an argument. -/
def lfsr2Next (taps : List Nat) (r : BitVec 15) : BitVec 15 := (r.setWidth 14).concat (feedback taps r)

/-- `next_bit()`'s effect on the state: both registers advance (43_noise.md R180). -/
def advanceNoise (s : State) : State :=
  { s with
    lfsr1 := lfsr1Next s.cfg.constants.lfsr1Taps s.lfsr1
    lfsr2 := lfsr2Next s.cfg.constants.lfsr2Taps s.lfsr2 }

/-- `next_bit()`'s result, "bit 0 of the new lfsr1" (43_noise.md R180), for a call made in state `s`. -/
def noiseBit (s : State) : Bool := (advanceNoise s).lfsr1.getLsbD 0

/-- `toggle()` where `b` holds, nothing where it does not: `snd <- snd ^ 1` (00_scope.md R12). -/
def toggleIf (b : Bool) (s : State) : State := { s with snd := s.snd ^^ b }

/-- The probabilistic toggle: `if next_bit() = 1 then toggle()` (00_scope.md R14). -/
def noiseToggle (s : State) : State := toggleIf (noiseBit s) (advanceNoise s)

/-- What a trigger writes to its voice's counters (42_voices.md R152 to R155). -/
def triggeredVoice (c : Config) : VoiceId → Voice
  | .bass => { phase := 0, period := 0, divider := 0 }
  | .snare => { phase := 0, period := c.snareResPeriod, divider := 0 }
  | .buzz => { phase := 0, period := c.buzzPeriod, divider := 0 }
  | .hihat => { phase := 0, period := 0, divider := 0 }

/-- The internal `TRIG(v)` (42_voices.md R151), with the response both its callers give (R150, and R135 of
41_cycle_tracker_threshold_key.md): `Response.ev_trig <- Some v`. By R151 to R155 a second `TRIG v` right after the
first changes no register further (it reports its event again), although 20_memory.md R64 lists `TRIG` as not idempotent: the
model follows the rules that define the operation (DESIGN CHOICE, assumption log 17). -/
def trigger (v : VoiceId) (s : State) : State :=
  { s.setVoice v (triggeredVoice s.cfg v) with sel := some v, resp := { s.resp with evTrig := some v } }

/-- The events of 60_exceptions.md R191, "so that a model can name them in one closed type". -/
inductive Cause where
  /-- `STUCK_KEY` -/
  | stuckKey
  /-- `ILLEGAL_CMD` -/
  | illegalCmd
  /-- `STALE_MEAS` -/
  | staleMeas
  deriving DecidableEq, Repr

/-- The code of a cause (R191). "No code is stored in any register; the table's numbers are names." -/
def Cause.code : Cause → Nat
  | .stuckKey => 1
  | .illegalCmd => 2
  | .staleMeas => 3

/-- Recovery, the stuck-key fault's handler (41_cycle_tracker_threshold_key.md R134; 60_exceptions.md R201: it saves nothing,
changes no mode and transfers control nowhere). -/
def recover (s : State) : State :=
  { s.mapPads (fun p => { p with baseline := p.backup }) with
    threshold := s.cfg.constants.thresholdInit
    timeoutCounter := timeoutReload s.cfg
    resp := { s.resp with evRecover := true } }

/-- Taking an exception: the whole effect each event has on the state (R191). There is no handler to return from, so there is
no return operation (60_exceptions.md R202). -/
def raise : Cause → State → State
  | .stuckKey, s => recover s
  | .illegalCmd, s => flagIllegal s
  | .staleMeas, s => flagStale s

/-- The state with the oldest presented input taken off the stream. -/
def takeInput (rest : List PortInput) (s : State) : State := { s with inputs := rest }

/-- A clock edge at which nothing is presented is no step of the block (20_memory.md R65): the state stays and the response
ports read 0. -/
def idleEdge (s : State) : State := s.respond Response.quiet

/-- Reset (70_reset_and_hazards.md R220): every state element takes R48's value; the configuration is constant and the stream
still to be presented is the environment's. -/
def resetBlock (s : State) : State := { State.resetWith s.cfg with inputs := s.inputs }

/-- An illegal word (30_encoding.md R88): `err_illegal <- 1`, nothing else, response all zero. -/
def illegalCommand (s : State) : State := raise .illegalCmd (s.respond Response.quiet)

/-- What the environment presents to make a word the block's next command. -/
def commandInput (w : CmdWord) : PortInput := { rst := false, cmdValid := true, cmd := w }

end Sys2Proof.Machine
end

