-- ==== Sys2Proof/Machine/Cycle.lean ====
section
/-! DEFINITION. The command `CYCLE`: its dispatch and the modes SEED and CAL (spec/40_sensing_calibration.md R106 to R108), and
the running cycle (41_cycle_tracker_threshold_key.md R119 to R135), one definition for each internal operation. -/

namespace Sys2Proof.Machine

/-- `CYCLE` in mode SEED (R107): "The seed copies the reading". -/
def cycleSeed (s : State) : State :=
  { s.mapPads (fun p => { p with baseline := p.measured }) with calRounds := 0, mode := .cal }

/-- One averaging round of the baselines (R108). -/
def averagePads (s : State) : State :=
  s.mapPads fun p => { p with baseline := avg16 p.baseline p.measured }

/-- `backup[i] <- baseline[i]`, "the value just written", and the entry to RUN (R108). -/
def captureBackup (s : State) : State :=
  { s.mapPads (fun p => { p with backup := p.baseline }) with mode := .run }

/-- `CYCLE` in mode CAL (R108). -/
def cycleCal (s : State) : State :=
  let done := { averagePads s with calRounds := s.calRounds + 1 }
  if done.calRounds.toNat = s.cfg.constants.calRounds then captureBackup done else done

/-- History shift (R120). -/
def shiftHistory (s : State) : State :=
  { s.mapPads (fun p => { p with pressedPrev := p.pressed }) with activeKeyPrev := s.activeKey }

/-- `measured[i] − baseline[i]` as a mathematical integer (R121). -/
def Pad.gap (p : Pad) : Int := (p.measured.toNat : Int) - (p.baseline.toNat : Int)

/-- Delta and downward snap of one pad (R121). -/
def Pad.track (p : Pad) : Pad :=
  if p.gap < 0 then { p with baseline := avg16 p.baseline p.measured, delta := 0 }
  else { p with delta := BitVec.ofInt 32 p.gap }

/-- Delta and downward snap (R121). -/
def trackPads (s : State) : State := s.mapPads Pad.track

/-- Press decision against `thr0`, the threshold at entry to the cycle (R122). -/
def decidePressed (thr0 : U16) (s : State) : State :=
  s.mapPads fun p => { p with pressed := exceeds thr0 p }

/-- The pads in ascending order, the scan order of R123 and R125. -/
def padsAscending : List PadIdx := [0, 1, 2, 3]

/-- The pads in descending order, the scan order of R135. -/
def padsDescending : List PadIdx := [3, 2, 1, 0]

/-- Active key (R123): the ascending scan keeps the last match. -/
def activeKeyOf (pads : Quad Pad) : Option PadIdx :=
  padsAscending.foldl (fun key i => if (pads.get i).pressed then some i else key) none

/-- Threshold adapter, pressed branch (R124), for the active pad `a`. -/
def adaptPressed (thr0 : U16) (a : PadIdx) (s : State) : State :=
  let q := (s.pad a).delta.toInt / s.cfg.constants.pressDiv
  if (thr0.toNat : Int) < q then { s with threshold := BitVec.ofInt 16 ((q + thr0.toNat) / 2) } else s

/-- Threshold adapter, idle branch (R125): the ascending scan stops at the first match. -/
def adaptIdle (thr0 : U16) (s : State) : State :=
  match padsAscending.find? (fun i => decide (s.cfg.constants.minLevel < (s.pad i).delta.toInt)) with
  | some i =>
    { s with threshold := BitVec.ofInt 16 (((s.pad i).delta.toInt / s.cfg.constants.idleDiv + thr0.toNat) / 2) }
  | none => s

/-- Threshold adapter (R124, R125). -/
def adaptThreshold (thr0 : U16) (key : Option PadIdx) (s : State) : State :=
  match key with
  | some a => adaptPressed thr0 a s
  | none => adaptIdle thr0 s

/-- Upward drift (R126), only where no pad is pressed. -/
def driftUp (key : Option PadIdx) (s : State) : State :=
  match key with
  | some _ => s
  | none => s.mapPads fun p => { p with baseline := inc16 s.cfg.constants.driftStep p.baseline }

/-- `active_key <- key`. -/
def setKey (key : Option PadIdx) (s : State) : State := { s with activeKey := key }

/-- Idle → Pressed(p) (R130). -/
def pressFromIdle (p : PadIdx) (s : State) : State :=
  setKey (some p) { s with timeoutCounter := timeoutReload s.cfg, quietCounter := s.cfg.quietReload }

/-- Pressed(q) → Pressed(p), `q ≠ p` (R131). -/
def changeKey (p : PadIdx) (s : State) : State :=
  setKey (some p) { s with timeoutCounter := timeoutReload s.cfg }

/-- `timeout_counter <- dec32(timeout_counter)` (R132). -/
def countTimeout (s : State) : State := { s with timeoutCounter := dec32 s.timeoutCounter }

/-- Pressed(p) → Pressed(p) (R132): the stuck-key fault is raised where the decrement gives 0. -/
def holdKey (p : PadIdx) (s : State) : State :=
  setKey (some p)
    (if (countTimeout s).timeoutCounter = 0 then raise .stuckKey (countTimeout s) else countTimeout s)

/-- Pressed(*) → Idle and Idle → Idle (R133). -/
def releaseKey (s : State) : State :=
  setKey none { s with quietCounter := if s.quietCounter = 0 then 0 else s.quietCounter - 1 }

/-- The key state machine (R130 to R133): "Exactly one of rules R130 to R133 applies in a cycle." The previous state is
`active_key_prev`, as R120 set it. -/
def keyMachine (key : Option PadIdx) (s : State) : State :=
  match key with
  | none => releaseKey s
  | some p =>
    match s.activeKeyPrev with
    | none => pressFromIdle p s
    | some q => if q = p then holdKey p s else changeKey p s

/-- Press-edge trigger (R135): the descending scan stops at the first rising edge. -/
def triggerOnEdge (s : State) : State :=
  match padsDescending.find? (fun i => (s.pad i).rose) with
  | some i => trigger (s.cfg.voiceOfPad.get i) s
  | none => s

/-- Steps 1 to 3 of R119: the pads after the history shift, the tracker and the press decision. -/
def judgePads (s : State) : State := decidePressed s.threshold (trackPads (shiftHistory s))

/-- Steps 4 to 8 of R119, `thr0` and `key` bound for the rest of the step (R122, R123). -/
def settleCycle (thr0 : U16) (key : Option PadIdx) (s : State) : State :=
  triggerOnEdge (keyMachine key (driftUp key (adaptThreshold thr0 key s)))

/-- `CYCLE` in mode RUN (R119). -/
def cycleRun (s : State) : State := settleCycle s.threshold (activeKeyOf (judgePads s).pads) (judgePads s)

/-- The mode's rule (R106). -/
def cycleByMode (s : State) : State :=
  match s.mode with
  | .seed => cycleSeed s
  | .cal => cycleCal s
  | .run => cycleRun s

/-- `CYCLE` (R106): the freshness check, then the mode's rule, then `meas_valid[0..3] <- 0`. -/
def execCycle (s : State) : Host.Outcome State Fault Refusal :=
  let quiet := s.respond Response.quiet
  .next (if allFresh quiet then clearFresh (cycleByMode quiet) else raise .staleMeas quiet)

end Sys2Proof.Machine
end

