-- ==== Sys2Proof/Machine/Noise.lean ====
section
/-! DEFINITION. The commands of spec/43_noise.md: `NOP` and `NOISE`. -/

namespace Sys2Proof.Machine

/-- `NOP` (R185): "Changes no state; `Response` all zero." -/
def execNop (s : State) : Host.Outcome State Fault Refusal := .next (s.respond Response.quiet)

/-- `NOISE` (R183): `Response.nbit <- next_bit()`. -/
def execNoise (s : State) : Host.Outcome State Fault Refusal :=
  .next ((advanceNoise s).respond { Response.quiet with nbit := noiseBit s })

end Sys2Proof.Machine
end

