-- ==== Sys2Proof/Machine/Sensing.lean ====
section
/-! DEFINITION. The command `MEAS` of spec/40_sensing_calibration.md. -/

namespace Sys2Proof.Machine

/-- `MEAS p, A, B` (R100): "Accepted in every mode, any number of times". -/
def execMeas (p : PadIdx) (a b : U16) (s : State) : Host.Outcome State Fault Refusal :=
  .next ((s.setPad p { s.pad p with measured := avg16 a b, measValid := true }).respond Response.quiet)

end Sys2Proof.Machine
end

