-- ==== Sys2Proof/Machine/Voices.lean ====
section
/-! DEFINITION. The commands of spec/42_voices.md: `TRIG` and `TICK`, with the tick rule of each voice. -/

namespace Sys2Proof.Machine

/-- `TRIG v` (R150). -/
def execTrig (v : VoiceId) (s : State) : Host.Outcome State Fault Refusal :=
  .next (trigger v (s.respond Response.quiet))

/-- `div <- div + 1; if div >= per then …`: the divider comes round (R158 to R160). -/
def dividerFires (div per : U16) : Bool := decide (per.toNat ≤ (div + 1).toNat)

/-- The divider after one count: 0 where it came round (R158 to R160). -/
def dividerNext (div per : U16) : U16 := if dividerFires div per then 0 else div + 1

/-- Bass tick (R158): past its total it writes nothing; the attack burst falls on the first tick. -/
def tickBass (s : State) : State :=
  let v := s.voice .bass
  if bassTotal s.cfg ≤ v.phase.toNat then s
  else
    let per := bassPeriodAt s.cfg v.phase.toNat
    let burst := if v.phase = 0 then noiseToggle s else s
    (toggleIf (dividerFires v.divider per) burst).setVoice .bass
      { phase := v.phase + 1, period := per, divider := dividerNext v.divider per }

/-- Snare tick (R159): a probabilistic toggle every tick, the resonant toggle in phase 1 only. -/
def tickSnare (s : State) : State :=
  let v := s.voice .snare
  if snareTotal s.cfg ≤ v.phase.toNat then s
  else if v.phase.toNat < s.cfg.snareP1Ticks.toNat then
    (toggleIf (dividerFires v.divider v.period) (noiseToggle s)).setVoice .snare
      { v with phase := v.phase + 1, divider := dividerNext v.divider v.period }
  else (noiseToggle s).setVoice .snare { v with phase := v.phase + 1 }

/-- Buzz tick (R160): a square wave without end. -/
def tickBuzz (s : State) : State :=
  let v := s.voice .buzz
  (toggleIf (dividerFires v.divider v.period) s).setVoice .buzz
    { v with divider := dividerNext v.divider v.period }

/-- HiHat tick (R161): `snd` is set to the noise bit, not toggled. -/
def tickHihat (s : State) : State :=
  let v := s.voice .hihat
  if s.cfg.hihatTicks.toNat ≤ v.phase.toNat then s
  else ({ advanceNoise s with snd := noiseBit s }).setVoice .hihat { v with phase := v.phase + 1 }

/-- The tick of the one voice `sel` names (R156, R163). -/
def tickVoice (s : State) : State :=
  match s.sel with
  | none => s
  | some .bass => tickBass s
  | some .snare => tickSnare s
  | some .buzz => tickBuzz s
  | some .hihat => tickHihat s

/-- The pulse counter's reload: the sample cadence relaxes with the quiet countdown (R157). -/
def pulseReload (s : State) : U16 :=
  if s.quietCounter = 0 then s.cfg.pulsesRelaxed else s.cfg.pulsesActive

/-- The pulse counter (R157). -/
def countPulse (s : State) : State :=
  if s.pulseCounter - 1 = 0 then
    { s with pulseCounter := pulseReload s, resp := { s.resp with wake := true } }
  else { s with pulseCounter := s.pulseCounter - 1 }

/-- `TICK` (R156). -/
def execTick (s : State) : Host.Outcome State Fault Refusal :=
  .next (countPulse (tickVoice (s.respond Response.quiet)))

end Sys2Proof.Machine
end

