-- ==== Sys2Proof/Machine/Dispatch.lean ====
section
/-! DEFINITION. One arm for each command of spec/30_encoding.md R82. -/

namespace Sys2Proof.Machine

def exec (i : Instr) (s : State) : Host.Outcome State Fault Refusal :=
  match i with
  | .nop => Sys2Proof.Machine.execNop s
  | .meas p a b => Sys2Proof.Machine.execMeas p a b s
  | .cycle => Sys2Proof.Machine.execCycle s
  | .tick => Sys2Proof.Machine.execTick s
  | .trig v => Sys2Proof.Machine.execTrig v s
  | .noise => Sys2Proof.Machine.execNoise s

end Sys2Proof.Machine
end

