-- ==== Sys2Proof/Machine/Port.lean ====
section
/-! DEFINITION. The port of the block (spec/20_memory.md R65): running one presented input, and the outputs as functions of the
state. The checks come in the order of 70_reset_and_hazards.md R220 (reset wins) and 60_exceptions.md R200 (decode, then the
command's own rule). -/

namespace Sys2Proof.Machine

/-- Runs one presented input on the state it was taken from. -/
def runInput (inp : PortInput) (s : State) : Host.Outcome State Fault Refusal :=
  if inp.rst then .next (resetBlock s)
  else if inp.cmdValid then
    match decode inp.cmd with
    | .ok i => exec i s
    | .error _ => .next (illegalCommand s)
  else .next (idleEdge s)

/-- `cmd_ready`: "constant 1: every command completes in the step that accepts it" (R65). -/
def cmdReadyPort (_ : State) : Bool := true

/-- An `Option` index on three wires `{valid, idx[1:0]}`, `None` = `000` (10_state.md R34). -/
def optionPort : Option (Fin 4) → BitVec 3
  | none => 0
  | some i => (1 : BitVec 1) ++ bitsOfIdx i

/-- `snd` (R30). -/
def sndPort (s : State) : Bool := s.snd

/-- `active_key[2:0]` (R34). -/
def activeKeyPort (s : State) : BitVec 3 := optionPort s.activeKey

/-- `relaxed = (quiet_counter = 0)` (10_state.md R36). -/
def relaxedPort (s : State) : Bool := s.quietCounter == 0

/-- `sel[2:0]` (R37). -/
def selPort (s : State) : BitVec 3 := optionPort (s.sel.map VoiceId.idx)

/-- `mode[1:0]` (10_state.md R27): SEED 0, CAL 1, RUN 2. -/
def modePort (s : State) : BitVec 2 :=
  match s.mode with
  | .seed => 0
  | .cal => 1
  | .run => 2

/-- `threshold[15:0]` (R33). -/
def thresholdPort (s : State) : U16 := s.threshold

/-- `err[1:0] = {err_stale, err_illegal}` (10_state.md R31). -/
def errPort (s : State) : BitVec 2 := BitVec.ofBool s.errStale ++ BitVec.ofBool s.errIllegal

/-- `wake` (42_voices.md R157). -/
def wakePort (s : State) : Bool := s.resp.wake

/-- `nbit` (43_noise.md R183). -/
def nbitPort (s : State) : Bool := s.resp.nbit

/-- `ev_trig[2:0] = {valid, voice}` (R65). -/
def evTrigPort (s : State) : BitVec 3 := optionPort (s.resp.evTrig.map VoiceId.idx)

/-- `ev_recover` (41_cycle_tracker_threshold_key.md R134). -/
def evRecoverPort (s : State) : Bool := s.resp.evRecover

end Sys2Proof.Machine
end

