-- ==== Sys2Proof/Machine/Step.lean ====
section
/-! DEFINITION. One step: the block takes what the environment presents (spec/20_memory.md R65, R67) and finishes it. The
input itself is run by `runInput` (Port.lean). -/

namespace Sys2Proof.Machine

/-- One step (00_scope.md R13); a configuration that fails R7 is refused. -/
def step (s : State) : Host.Outcome State Fault Refusal :=
  match s.cfg.ok with
  | false => .refused .configRejected
  | true =>
    match s.inputs with
    | [] => .next (idleEdge s)
    | inp :: rest => runInput inp (takeInput rest s)

/-- `s` with the word presented as the block's next command: the block "fetches no instructions" (10_state.md R26), commands
"arrive from the environment one at a time", so the word becomes the oldest input of the stream. -/
def State.withFetchWord (s : State) (nbits w : Nat) : State :=
  { s with inputs := commandInput (BitVec.ofNat 40 (w % 2 ^ nbits)) :: s.inputs }

end Sys2Proof.Machine
end

