-- ==== Sys2Proof/Safety.lean ====
section
/-! DEFINITION. The terms statements are made in: agreement of two states on a part of the block, what counts as a safe run
(spec/60_exceptions.md R192, 93_implementation_defined.md U2, U3, U13), and the invariants of the pad side and the sound side
that rule out the states no run reaches. -/

namespace Sys2Proof.Machine

/-- The part no command writes: the configuration, and the stream the environment presents. -/
def SameEnv (s t : State) : Prop := t.cfg = s.cfg ∧ t.inputs = s.inputs

/-- The registers of 10_state.md section 4 a `CYCLE` works on, with `mode` and `cal_rounds`. -/
def SameKeyState (s t : State) : Prop :=
  t.mode = s.mode ∧ t.calRounds = s.calRounds ∧ t.threshold = s.threshold ∧ t.activeKey = s.activeKey
    ∧ t.activeKeyPrev = s.activeKeyPrev ∧ t.timeoutCounter = s.timeoutCounter ∧ t.quietCounter = s.quietCounter

/-- The two shift registers. -/
def SameNoise (s t : State) : Prop := t.lfsr1 = s.lfsr1 ∧ t.lfsr2 = s.lfsr2

/-- The selector, the voice counters, the shift registers and the output line. -/
def SameVoiceState (s t : State) : Prop :=
  t.sel = s.sel ∧ t.voices = s.voices ∧ SameNoise s t ∧ t.snd = s.snd

/-- The sticky error flags. -/
def SameErrors (s t : State) : Prop := t.errIllegal = s.errIllegal ∧ t.errStale = s.errStale

/-- The fields of a pad no press decision writes and no reading: its baseline, backup and flags, delta. -/
def SamePadButReading (x y : Pad) : Prop :=
  y.baseline = x.baseline ∧ y.delta = x.delta ∧ y.backup = x.backup ∧ y.pressed = x.pressed
    ∧ y.pressedPrev = x.pressedPrev

/-- Every pad has a fresh measurement (40_sensing_calibration.md R106). -/
def Fresh (s : State) : Prop := ∀ i, (s.pad i).measValid = true

/-- `key` is the highest index at which the flag is set, or `None` (41_cycle_tracker_threshold_key.md R123). -/
def LastSet (flag : PadIdx → Bool) : Option PadIdx → Prop
  | none => ∀ i, flag i = false
  | some p => flag p = true ∧ ∀ q, p < q → flag q = false

/-- No command of the run was malformed or stale (60_exceptions.md R192: "every claim about a run takes `err = 00` at the end
as a premise or proves it"). -/
def ErrFree (s : State) : Prop := s.errIllegal = false ∧ s.errStale = false

/-- `k` steps end in a state without an error flag. -/
def EndsErrFree (k : Nat) (s : State) : Prop := ∃ t, Sys2Proof.core.run k s = .next t ∧ ErrFree t

/-- The premise of 93_implementation_defined.md U2 for a `MEAS`: the sum fits 16 bits. -/
def MeasInRange (a b : U16) : Prop := a.toNat + b.toNat < 65536

/-- The premise of 93_implementation_defined.md U2 for the averages of a cycle. -/
def AveragesInRange (s : State) : Prop := ∀ i, (s.pad i).baseline.toNat + (s.pad i).measured.toNat < 65536

/-- The premise of 93_implementation_defined.md U3 for a drift: no baseline is at the top of its range. -/
def DriftInRange (s : State) : Prop := ∀ i, (s.pad i).baseline.toNat < 65535

/-- A command an environment that behaves like the source's device issues: neither `TRIG` nor `NOISE`
(93_implementation_defined.md U13). -/
def deviceCommand : Instr → Bool
  | .nop => true
  | .meas _ _ _ => true
  | .cycle => true
  | .tick => true
  | .trig _ => false
  | .noise => false

/-- The invariant of the pad side. -/
structure PadSideOk (s : State) : Prop where
  /-- 00_scope.md R7 -/
  config : s.cfg.ok = true
  /-- 00_scope.md R5 -/
  constants : s.cfg.constants = Constants.source
  /-- 10_state.md R28 with 40_sensing_calibration.md R107, R108 -/
  roundsInSeed : s.mode = .seed → s.calRounds = 0
  roundsInCal : s.mode = .cal → s.calRounds.toNat < 15
  /-- 10_state.md R28: "holds 15 for ever once mode is RUN" -/
  roundsInRun : s.mode = .run → s.calRounds.toNat = 15
  /-- 70_reset_and_hazards.md R223: "a `CYCLE` before RUN never presses, drifts, adapts or triggers" -/
  idleBeforeRun : s.mode ≠ .run →
    s.activeKeyPrev = none ∧ s.threshold = 100 ∧ s.timeoutCounter = 0 ∧ s.quietCounter = 0
      ∧ ∀ i, (s.pad i).pressed = false ∧ (s.pad i).pressedPrev = false ∧ (s.pad i).delta = 0
        ∧ (s.pad i).backup = 0
  /-- 10_state.md R34 -/
  keyIsLast : LastSet (fun i => (s.pad i).pressed) s.activeKey
  prevKeyIsLast : LastSet (fun i => (s.pad i).pressedPrev) s.activeKeyPrev
  /-- 41_cycle_tracker_threshold_key.md R139 (c) -/
  thresholdLow : 23 ≤ s.threshold.toNat
  thresholdHigh : s.threshold.toNat ≤ 16382
  /-- 41_cycle_tracker_threshold_key.md R137 -/
  timeoutHigh : s.timeoutCounter.toNat ≤ 3 * s.cfg.sampleRate
  timeoutLow : s.activeKey ≠ none → 1 ≤ s.timeoutCounter.toNat
  /-- 10_state.md R36 -/
  quietHigh : s.quietCounter.toNat ≤ s.cfg.quietReload.toNat
  /-- 10_state.md R24 -/
  deltaRange : ∀ i, 0 ≤ (s.pad i).delta.toInt ∧ (s.pad i).delta.toInt ≤ 65535

/-- The bass between ticks (10_state.md R39, 42_voices.md R165 (b)). -/
def BassOk (c : Config) (v : Voice) : Prop :=
  v.phase.toNat ≤ c.bassGlissTicks.toNat + c.bassEchoTicks.toNat
    ∧ (v = Voice.dormant
      ∨ 1 ≤ v.phase.toNat ∧ v.period = bassPeriodAt c (v.phase.toNat - 1) ∧ v.divider.toNat < v.period.toNat)

/-- The snare between ticks (10_state.md R40, 42_voices.md R165 (b)). -/
def SnareOk (c : Config) (selected : Bool) (v : Voice) : Prop :=
  v.phase.toNat ≤ c.snareP1Ticks.toNat + c.snareP2Ticks.toNat
    ∧ (selected = false ∧ v = Voice.dormant ∨ v.period = c.snareResPeriod ∧ v.divider.toNat < v.period.toNat)

/-- The buzz between ticks (10_state.md R41). -/
def BuzzOk (c : Config) (selected : Bool) (v : Voice) : Prop :=
  v.phase = 0
    ∧ (selected = false ∧ v = Voice.dormant ∨ v.period = c.buzzPeriod ∧ v.divider.toNat < v.period.toNat)

/-- The hi-hat between ticks (10_state.md R42). -/
def HihatOk (c : Config) (v : Voice) : Prop :=
  v.phase.toNat ≤ c.hihatTicks.toNat ∧ v.period = 0 ∧ v.divider = 0

/-- The invariant of the sound side. -/
structure SoundSideOk (s : State) : Prop where
  /-- 00_scope.md R7 -/
  config : s.cfg.ok = true
  /-- 00_scope.md R5 -/
  constants : s.cfg.constants = Constants.source
  /-- 10_state.md R43, R44 -/
  noise1 : s.lfsr1 ≠ 0
  noise2 : s.lfsr2 ≠ 0
  /-- 42_voices.md R157 -/
  pulseLow : 1 ≤ s.pulseCounter.toNat
  pulseHigh : s.pulseCounter.toNat ≤ max s.cfg.pulsesActive.toNat s.cfg.pulsesRelaxed.toNat
  bass : BassOk s.cfg (s.voice .bass)
  snare : SnareOk s.cfg (s.sel == some .snare) (s.voice .snare)
  buzz : BuzzOk s.cfg (s.sel == some .buzz) (s.voice .buzz)
  hihat : HihatOk s.cfg (s.voice .hihat)
  /-- 42_voices.md R165 (a) -/
  untouched : s.sel = none → s.snd = false ∧ ∀ v, s.voice v = Voice.dormant

end Sys2Proof.Machine
end

