-- ==== Sys2Proof/Certificates/Slice0/Obligations.lean ====
section
/-! DEFINITION. The statements for the provers, from the numbered rules of spec/. A statement named 'stated' in
OBLIGATIONS.json formalises the rules it cites whole; a 'derived' one rests on an inference the spec marks as its own or on a
convention of this model, which its docstring names. The configuration is a field of the state (assumption log 1), so every
statement holds for every value of the open parameters that its hypotheses allow. The constants of R5 are in the configuration
too: a statement that names one of R5's values has the premise `constants = Constants.source`, every other holds for every
value of them (assumption log 13). -/

open Sys2Proof Sys2Proof.Machine

/-! ## Encoding -/

/-- Decoding an encoded command gives it back, with every operand at every value (30_encoding.md sections 1 to 4). -/
def Obligations.DecodeOfEncode : Prop := ∀ i : Instr, decode (encode i) = .ok i

/-- A word the decoder accepts is the encoding of what it reads: no command has two words (30_encoding.md sections 1 to 4). -/
def Obligations.EncodeOfDecode : Prop := ∀ (w : CmdWord) (i : Instr), decode w = .ok i → encode i = w

/-- R87: exactly the listed words are reserved. -/
def Obligations.DecodeRejectsReservedWords : Prop :=
  ∀ w : CmdWord,
    (∃ r, decode w = .error r) ↔
      (w.extractLsb' 32 2 ≠ 0
        ∨ 6 ≤ (w.extractLsb' 36 4).toNat
        ∨ ((w.extractLsb' 36 4 = 0 ∨ w.extractLsb' 36 4 = 2 ∨ w.extractLsb' 36 4 = 3 ∨ w.extractLsb' 36 4 = 5)
            ∧ (w.extractLsb' 34 2 ≠ 0 ∨ w.extractLsb' 16 16 ≠ 0 ∨ w.extractLsb' 0 16 ≠ 0))
        ∨ (w.extractLsb' 36 4 = 4 ∧ (w.extractLsb' 16 16 ≠ 0 ∨ w.extractLsb' 0 16 ≠ 0)))

/-- R82 with R83: a word selects the row exactly when `w & mask = match`, and the operands are its fields. -/
def Obligations.WordSelectsItsRow : Prop :=
  ∀ w : CmdWord,
    (w &&& 0xFFFFFFFFFF = 0x0000000000 ↔ decode w = .ok .nop)
      ∧ (w &&& 0xF300000000 = 0x1000000000 ↔
          decode w = .ok (.meas (idxOfBits (w.extractLsb' 34 2)) (w.extractLsb' 16 16) (w.extractLsb' 0 16)))
      ∧ (w &&& 0xFFFFFFFFFF = 0x2000000000 ↔ decode w = .ok .cycle)
      ∧ (w &&& 0xFFFFFFFFFF = 0x3000000000 ↔ decode w = .ok .tick)
      ∧ (w &&& 0xF3FFFFFFFF = 0x4000000000 ↔
          decode w = .ok (.trig (VoiceId.ofIdx (idxOfBits (w.extractLsb' 34 2)))))
      ∧ (w &&& 0xFFFFFFFFFF = 0x5000000000 ↔ decode w = .ok .noise)

/-- A word of each command written out from R80 to R82, bit by bit, decodes to that command. -/
def Obligations.WrittenWordsDecode : Prop :=
  decode 0b0000_00_00_0000000000000000_0000000000000000 = .ok .nop
    ∧ decode 0b0001_10_00_0000010000000000_0000010000010000 = .ok (.meas 2 1024 1040)
    ∧ decode 0b0010_00_00_0000000000000000_0000000000000000 = .ok .cycle
    ∧ decode 0b0011_00_00_0000000000000000_0000000000000000 = .ok .tick
    ∧ decode 0b0100_01_00_0000000000000000_0000000000000000 = .ok (.trig .snare)
    ∧ decode 0b0101_00_00_0000000000000000_0000000000000000 = .ok .noise

/-! ## The step -/

/-- A presented word that decodes is run by `exec` on the state it was taken from; the stream moves on by one input, which is
all a step adds around a command (no program counter: 10_state.md R26). The stream is the model's own field (assumption log 4). -/
def Obligations.StepRunsDecodedCommand : Prop :=
  ∀ (s : State) (w : CmdWord) (rest : List PortInput) (i : Instr),
    s.cfg.ok = true → s.inputs = { rst := false, cmdValid := true, cmd := w } :: rest → decode w = .ok i →
      step s = exec i { s with inputs := rest }

/-- What R88 says of an illegal word (30_encoding.md section 4): it sets `err_illegal` and changes nothing else; the response is
all zero and the block goes on. That the stream moves on by this input is the model's own field's convention (assumption log
4). -/
def Obligations.IllegalWordSetsFlagOnly : Prop :=
  ∀ (s : State) (w : CmdWord) (rest : List PortInput) (r : Reserved),
    s.cfg.ok = true → s.inputs = { rst := false, cmdValid := true, cmd := w } :: rest → decode w = .error r →
      step s = .next { s with
        inputs := rest
        errIllegal := true
        resp := { wake := false, nbit := false, evTrig := none, evRecover := false } }

/-- R48's table: after reset the state is exactly that, whatever command is presented in the same step (70_reset_and_hazards.md
R220). The response is R13's default; that the rest of the stream is kept is the model's own field's convention (assumption log
4). -/
def Obligations.ResetGivesTableValues : Prop :=
  ∀ (s : State) (valid : Bool) (w : CmdWord) (rest : List PortInput),
    s.cfg.ok = true → s.cfg.constants = Constants.source →
    s.inputs = { rst := true, cmdValid := valid, cmd := w } :: rest →
      ∃ t, step s = .next t ∧ t.errIllegal = false ∧ t.errStale = false ∧ t.cfg = s.cfg ∧ t.inputs = rest
        ∧ (∀ i, (t.pad i).baseline = 0 ∧ (t.pad i).measured = 0 ∧ (t.pad i).measValid = false
            ∧ (t.pad i).delta = 0 ∧ (t.pad i).backup = 0 ∧ (t.pad i).pressed = false
            ∧ (t.pad i).pressedPrev = false)
        ∧ t.mode = .seed ∧ t.calRounds = 0 ∧ t.snd = false ∧ t.threshold = 100
        ∧ t.activeKey = none ∧ t.activeKeyPrev = none ∧ t.timeoutCounter = 0 ∧ t.quietCounter = 0
        ∧ t.sel = none
        ∧ (∀ v, (t.voice v).phase = 0 ∧ (t.voice v).period = 0 ∧ (t.voice v).divider = 0)
        ∧ t.lfsr1 = 1 ∧ t.lfsr2 = 1 ∧ t.pulseCounter = s.cfg.pulsesRelaxed
        ∧ t.resp = { wake := false, nbit := false, evTrig := none, evRecover := false }

/-- A clock edge at which neither reset nor a command is presented, or the stream is at its end, changes no state element;
the response ports read 0 (20_memory.md section 3). That such an edge is a step at all is the model's choice (assumption log
4). -/
def Obligations.IdleEdgeHoldsState : Prop :=
  ∀ (s : State) (w : CmdWord) (rest : List PortInput), s.cfg.ok = true →
    (s.inputs = [] → step s =
        .next { s with resp := { wake := false, nbit := false, evTrig := none, evRecover := false } })
      ∧ (s.inputs = { rst := false, cmdValid := false, cmd := w } :: rest → step s =
        .next { s with
          inputs := rest
          resp := { wake := false, nbit := false, evTrig := none, evRecover := false } })

/-- R7's constraints (00_scope.md section 3): with the source's constants the check is exactly these, and a configuration that
fails it is refused. (`VOICE_OF_PAD` is total with values in 0 to 3, and `BASS_PERIOD_END` and `HIHAT_TICKS` are at most 65535,
by type.) That it is the step that refuses is assumption log 6; with other constants the check also refuses what the types
cannot hold, which is the model's choice (assumption log 13). -/
def Obligations.ConfigCheckIsTheRule : Prop :=
  (∀ c : Config, c.constants = Constants.source → (c.ok = true ↔
    (1 ≤ 3 * c.sampleRate ∧ 3 * c.sampleRate ≤ 2 ^ 32 - 1)
      ∧ 1 ≤ c.pulsesActive.toNat ∧ 1 ≤ c.pulsesRelaxed.toNat
      ∧ (1 ≤ c.bassPeriodStart.toNat ∧ c.bassPeriodStart.toNat ≤ c.bassPeriodEnd.toNat)
      ∧ 1 ≤ c.bassGlissTicks.toNat ∧ c.bassGlissTicks.toNat + c.bassEchoTicks.toNat ≤ 65535
      ∧ (bassPeriodAt c 0 = c.bassPeriodStart
        ∧ (∀ t u, t ≤ u → (bassPeriodAt c t).toNat ≤ (bassPeriodAt c u).toNat)
        ∧ (∀ t, c.bassGlissTicks.toNat ≤ t → bassPeriodAt c t = c.bassPeriodEnd))
      ∧ 1 ≤ c.snareResPeriod.toNat ∧ c.snareP2Ticks.toNat < c.snareP1Ticks.toNat
      ∧ c.snareP1Ticks.toNat + c.snareP2Ticks.toNat ≤ 65535 ∧ 1 ≤ c.buzzPeriod.toNat))
    ∧ ∀ s : State, s.cfg.ok = false → step s = .refused .configRejected

/-- R162: the default sweep is the linear ramp with floor division, without any loss in 16 bits, and meets R7. -/
def Obligations.DefaultSweepIsLinear : Prop :=
  ∀ c : Config, c.bassPeriodTable = none → 1 ≤ c.bassPeriodStart.toNat →
    c.bassPeriodStart.toNat ≤ c.bassPeriodEnd.toNat → 1 ≤ c.bassGlissTicks.toNat →
      (∀ t, t < c.bassGlissTicks.toNat →
        (bassPeriodAt c t).toNat
          = c.bassPeriodStart.toNat
            + (t * (c.bassPeriodEnd.toNat - c.bassPeriodStart.toNat)) / c.bassGlissTicks.toNat)
        ∧ (∀ t, c.bassGlissTicks.toNat ≤ t → bassPeriodAt c t = c.bassPeriodEnd)
        ∧ bassPeriodAt c 0 = c.bassPeriodStart
        ∧ ∀ t u, t ≤ u → (bassPeriodAt c t).toNat ≤ (bassPeriodAt c u).toNat

/-- Under a configuration that meets R7 every step answers a next state: "there is no fatal/abort path in the core"
(60_exceptions.md section 1). -/
def Obligations.StepAlwaysCompletes : Prop := ∀ s : State, s.cfg.ok = true → ∃ t, step s = .next t

/-- R70's constant configuration: no step changes it. -/
def Obligations.ConfigurationIsConstant : Prop := ∀ s t : State, step s = .next t → t.cfg = s.cfg

/-! ## NOP, MEAS, NOISE, TRIG -/

/-- R185: `NOP`, the all-zero word, changes no state; the response is all zero. -/
def Obligations.NopChangesNothing : Prop :=
  decode 0x0000000000 = .ok .nop
    ∧ ∀ s : State, exec .nop s =
      .next { s with resp := { wake := false, nbit := false, evTrig := none, evRecover := false } }

/-- R100: `MEAS` writes the floor of half the 17-bit sum and the freshness flag of its pad, and nothing else. -/
def Obligations.MeasWritesHalfTheSum : Prop :=
  ∀ (s : State) (p : PadIdx) (a b : U16),
    ∃ t, exec (.meas p a b) s = .next t
      ∧ (t.pad p).measured.toNat = (a.toNat + b.toNat) / 2 ∧ (t.pad p).measValid = true
      ∧ SamePadButReading (s.pad p) (t.pad p) ∧ (∀ q, q ≠ p → t.pad q = s.pad q)
      ∧ SameEnv s t ∧ SameKeyState s t ∧ SameVoiceState s t ∧ t.pulseCounter = s.pulseCounter ∧ SameErrors s t
      ∧ t.resp = { wake := false, nbit := false, evTrig := none, evRecover := false }

/-- R183 with R180: `NOISE` returns the new bit 0 of the first register, shifts both registers by one towards the more
significant end with the exclusive or of the tapped bits entering at bit 0, and writes nothing else. -/
def Obligations.NoiseShiftsBothRegisters : Prop :=
  ∀ s : State, s.cfg.constants = Constants.source →
    ∃ t, exec .noise s = .next t
      ∧ (let fb1 := s.lfsr1[15] ^^ s.lfsr1[14] ^^ s.lfsr1[12] ^^ s.lfsr1[4]
         let fb2 := s.lfsr2[14] ^^ s.lfsr2[13]
         (∀ k, k < 15 → t.lfsr1.getLsbD (k + 1) = s.lfsr1.getLsbD k) ∧ t.lfsr1.getLsbD 0 = fb1
          ∧ (∀ k, k < 14 → t.lfsr2.getLsbD (k + 1) = s.lfsr2.getLsbD k) ∧ t.lfsr2.getLsbD 0 = fb2
          ∧ t.resp = { wake := false, nbit := fb1, evTrig := none, evRecover := false })
      ∧ t.pads = s.pads ∧ SameEnv s t ∧ SameKeyState s t ∧ SameErrors s t
      ∧ t.sel = s.sel ∧ t.voices = s.voices ∧ t.snd = s.snd ∧ t.pulseCounter = s.pulseCounter

/-- R150 to R155: `TRIG v` restarts voice `v` and selects it; no other voice, `snd`, noise register, pad or key state moves. -/
def Obligations.TrigRestartsAndSelects : Prop :=
  ∀ (s : State) (v : VoiceId),
    ∃ t, exec (.trig v) s = .next t
      ∧ t.sel = some v
      ∧ (t.voice v).phase = 0 ∧ (t.voice v).divider = 0
      ∧ (v = .bass → (t.voice v).period = 0) ∧ (v = .snare → (t.voice v).period = s.cfg.snareResPeriod)
      ∧ (v = .buzz → (t.voice v).period = s.cfg.buzzPeriod) ∧ (v = .hihat → (t.voice v).period = 0)
      ∧ (∀ u, u ≠ v → t.voice u = s.voice u)
      ∧ t.snd = s.snd ∧ SameNoise s t ∧ t.pads = s.pads ∧ SameEnv s t ∧ SameKeyState s t ∧ SameErrors s t
      ∧ t.pulseCounter = s.pulseCounter
      ∧ t.resp = { wake := false, nbit := false, evTrig := some v, evRecover := false }

/-! ## TICK -/

/-- R157, and the frame of every `TICK`: the pulse counter counts down modulo 2^16 and at 0 reloads and wakes; pads, key state,
selector, error flags and the other responses stay. -/
def Obligations.TickCountsPulse : Prop :=
  ∀ s : State,
    ∃ t, exec .tick s = .next t
      ∧ (let n := ((s.pulseCounter.toNat : Int) - 1) % 65536
         if n = 0 then
          t.resp.wake = true
            ∧ t.pulseCounter = (if s.quietCounter = 0 then s.cfg.pulsesRelaxed else s.cfg.pulsesActive)
         else t.resp.wake = false ∧ (t.pulseCounter.toNat : Int) = n)
      ∧ t.resp.nbit = false ∧ t.resp.evTrig = none ∧ t.resp.evRecover = false
      ∧ t.pads = s.pads ∧ SameEnv s t ∧ SameKeyState s t ∧ SameErrors s t ∧ t.sel = s.sel

/-- R158: the bass tick. -/
def Obligations.TickAdvancesBass : Prop :=
  ∀ s : State, s.sel = some .bass →
    ∃ t, exec .tick s = .next t
      ∧ (let v := s.voice .bass
         let next1 := lfsr1Next s.cfg.constants.lfsr1Taps s.lfsr1
         let next2 := lfsr2Next s.cfg.constants.lfsr2Taps s.lfsr2
         let per := bassPeriodAt s.cfg v.phase.toNat
         let comesRound := decide (per.toNat ≤ (v.divider + 1).toNat)
         if s.cfg.bassGlissTicks.toNat + s.cfg.bassEchoTicks.toNat ≤ v.phase.toNat then SameVoiceState s t
         else
          t.voice .bass = { phase := v.phase + 1, period := per, divider := if comesRound then 0 else v.divider + 1 }
            ∧ (if v.phase = 0 then
                t.lfsr1 = next1 ∧ t.lfsr2 = next2
                  ∧ t.snd = (s.snd ^^ next1.getLsbD 0 ^^ comesRound)
              else SameNoise s t ∧ t.snd = (s.snd ^^ comesRound)))

/-- R159: the snare tick. -/
def Obligations.TickAdvancesSnare : Prop :=
  ∀ s : State, s.sel = some .snare →
    ∃ t, exec .tick s = .next t
      ∧ (let v := s.voice .snare
         let next1 := lfsr1Next s.cfg.constants.lfsr1Taps s.lfsr1
         let next2 := lfsr2Next s.cfg.constants.lfsr2Taps s.lfsr2
         let comesRound := decide (v.period.toNat ≤ (v.divider + 1).toNat)
         if s.cfg.snareP1Ticks.toNat + s.cfg.snareP2Ticks.toNat ≤ v.phase.toNat then SameVoiceState s t
         else
          t.lfsr1 = next1 ∧ t.lfsr2 = next2
            ∧ (t.voice .snare).phase = v.phase + 1 ∧ (t.voice .snare).period = v.period
            ∧ (if v.phase.toNat < s.cfg.snareP1Ticks.toNat then
                (t.voice .snare).divider = (if comesRound then 0 else v.divider + 1)
                  ∧ t.snd = (s.snd ^^ next1.getLsbD 0 ^^ comesRound)
              else
                (t.voice .snare).divider = v.divider ∧ t.snd = (s.snd ^^ next1.getLsbD 0)))

/-- R160: the buzz tick, which has no end and uses no noise. -/
def Obligations.TickAdvancesBuzz : Prop :=
  ∀ s : State, s.sel = some .buzz →
    ∃ t, exec .tick s = .next t ∧ SameNoise s t
      ∧ (let v := s.voice .buzz
         let comesRound := decide (v.period.toNat ≤ (v.divider + 1).toNat)
         (t.voice .buzz).phase = v.phase ∧ (t.voice .buzz).period = v.period
          ∧ (t.voice .buzz).divider = (if comesRound then 0 else v.divider + 1)
          ∧ t.snd = (s.snd ^^ comesRound))

/-- R161: the hi-hat tick sets `snd` to the noise bit until its time is over. -/
def Obligations.TickAdvancesHihat : Prop :=
  ∀ s : State, s.sel = some .hihat →
    ∃ t, exec .tick s = .next t
      ∧ (let v := s.voice .hihat
         let next1 := lfsr1Next s.cfg.constants.lfsr1Taps s.lfsr1
         let next2 := lfsr2Next s.cfg.constants.lfsr2Taps s.lfsr2
         if s.cfg.hihatTicks.toNat ≤ v.phase.toNat then SameVoiceState s t
         else
          t.snd = next1.getLsbD 0 ∧ t.lfsr1 = next1 ∧ t.lfsr2 = next2
            ∧ t.voice .hihat = { v with phase := v.phase + 1 })

/-- R163: `snd` is written only inside `TICK`, and only by the voice `sel` names: a `TICK` leaves every other voice's counters as
they are, what it leaves on the line does not depend on them, and with no voice selected it leaves the line, the voices and
the noise registers. -/
def Obligations.OnlySelectedVoiceMoves : Prop :=
  (∀ (i : Instr) (s t : State), exec i s = .next t → i ≠ .tick → t.snd = s.snd)
    ∧ ∀ s : State, ∃ t, exec .tick s = .next t
      ∧ (∀ v, s.sel ≠ some v → t.voice v = s.voice v) ∧ (s.sel = none → SameVoiceState s t)
      ∧ ∀ (v : VoiceId) (x : Voice), s.sel ≠ some v →
          ∃ u, exec .tick (s.setVoice v x) = .next u ∧ u.snd = t.snd

/-- R164: a voice that has run out returns from its tick without writing anything, and stays selected. -/
def Obligations.SpentVoiceIsSilent : Prop :=
  ∀ s : State,
    (s.sel = some .bass ∧ s.cfg.bassGlissTicks.toNat + s.cfg.bassEchoTicks.toNat ≤ (s.voice .bass).phase.toNat)
      ∨ (s.sel = some .snare ∧ s.cfg.snareP1Ticks.toNat + s.cfg.snareP2Ticks.toNat ≤ (s.voice .snare).phase.toNat)
      ∨ (s.sel = some .hihat ∧ s.cfg.hihatTicks.toNat ≤ (s.voice .hihat).phase.toNat) →
    ∃ t, exec .tick s = .next t ∧ SameVoiceState s t

/-! ## CYCLE before RUN -/

/-- A `CYCLE` without four fresh measurements sets `err_stale` and nothing else, in every mode (40_sensing_calibration.md
section 3, 60_exceptions.md section 1). -/
def Obligations.StaleCycleSetsFlagOnly : Prop :=
  ∀ s : State, (∃ i, (s.pad i).measValid = false) →
    exec .cycle s = .next { s with
      errStale := true
      resp := { wake := false, nbit := false, evTrig := none, evRecover := false } }

/-- R107: `CYCLE` in mode SEED copies the readings to the baselines and enters CAL. -/
def Obligations.SeedCycleCopiesReadings : Prop :=
  ∀ s : State, s.mode = .seed → Fresh s →
    ∃ t, exec .cycle s = .next t
      ∧ (∀ i, t.pad i = { s.pad i with baseline := (s.pad i).measured, measValid := false })
      ∧ t.calRounds = 0 ∧ t.mode = .cal
      ∧ t.threshold = s.threshold ∧ t.activeKey = s.activeKey ∧ t.activeKeyPrev = s.activeKeyPrev
      ∧ t.timeoutCounter = s.timeoutCounter ∧ t.quietCounter = s.quietCounter
      ∧ SameEnv s t ∧ SameVoiceState s t ∧ t.pulseCounter = s.pulseCounter ∧ SameErrors s t
      ∧ t.resp = { wake := false, nbit := false, evTrig := none, evRecover := false }

/-- R108: `CYCLE` in mode CAL averages; the fifteenth round captures the backup and enters RUN. (`calRounds < 15` holds in mode
CAL by `PadSideOk`.) -/
def Obligations.CalCycleAverages : Prop :=
  ∀ s : State, s.cfg.constants = Constants.source → s.mode = .cal → Fresh s → s.calRounds.toNat < 15 →
    ∃ t, exec .cycle s = .next t
      ∧ t.calRounds.toNat = s.calRounds.toNat + 1
      ∧ (∀ i, (t.pad i).baseline.toNat = ((s.pad i).baseline.toNat + (s.pad i).measured.toNat) / 2
          ∧ (t.pad i).measured = (s.pad i).measured ∧ (t.pad i).measValid = false
          ∧ (t.pad i).delta = (s.pad i).delta ∧ (t.pad i).pressed = (s.pad i).pressed
          ∧ (t.pad i).pressedPrev = (s.pad i).pressedPrev)
      ∧ (if s.calRounds.toNat = 14 then t.mode = .run ∧ ∀ i, (t.pad i).backup = (t.pad i).baseline
         else t.mode = .cal ∧ ∀ i, (t.pad i).backup = (s.pad i).backup)
      ∧ t.threshold = s.threshold ∧ t.activeKey = s.activeKey ∧ t.activeKeyPrev = s.activeKeyPrev
      ∧ t.timeoutCounter = s.timeoutCounter ∧ t.quietCounter = s.quietCounter
      ∧ SameEnv s t ∧ SameVoiceState s t ∧ t.pulseCounter = s.pulseCounter ∧ SameErrors s t
      ∧ t.resp = { wake := false, nbit := false, evTrig := none, evRecover := false }

/-- R109, an inference the spec marks as its own: under a constant reading `m` the average comes within one of `m`, by the
stated floor and ceiling; after fifteen rounds it is between `m` − 2 and `m` + 1 (40_sensing_calibration.md section 5). -/
def Obligations.CalibrationConverges : Prop :=
  ∀ (m : U16) (b : Nat → U16), (∀ k, b (k + 1) = avg16 (b k) m) →
    (∀ k, m.toNat ≤ (b 0).toNat → m.toNat ≤ (b k).toNat ∧ (b k).toNat - m.toNat = ((b 0).toNat - m.toNat) / 2 ^ k)
      ∧ (∀ k, (b 0).toNat < m.toNat →
          (b k).toNat < m.toNat ∧ m.toNat - (b k).toNat = (m.toNat - (b 0).toNat + (2 ^ k - 1)) / 2 ^ k)
      ∧ (m.toNat ≤ (b 15).toNat + 2 ∧ (b 15).toNat ≤ m.toNat + 1)

/-! ## CYCLE in RUN -/

/-- R120 and R122: the history shift, and the press decision against the threshold at entry. -/
def Obligations.RunCycleJudgesPads : Prop :=
  ∀ s : State, s.mode = .run → Fresh s →
    ∃ t, exec .cycle s = .next t ∧ t.activeKeyPrev = s.activeKey
      ∧ ∀ i, (t.pad i).pressedPrev = (s.pad i).pressed
        ∧ ((t.pad i).pressed = true ↔ (s.threshold.toNat : Int) < (t.pad i).delta.toInt)

/-- R123: the active key is the highest-indexed pressed pad, or `None`. -/
def Obligations.RunCycleActiveKeyIsLast : Prop :=
  ∀ s : State, s.mode = .run → Fresh s →
    ∃ t, exec .cycle s = .next t ∧ LastSet (fun i => (t.pad i).pressed) t.activeKey

/-- R124 and R125: the threshold adapter, in a cycle without recovery. -/
def Obligations.RunCycleAdaptsThreshold : Prop :=
  ∀ s t : State, s.cfg.constants = Constants.source → s.mode = .run → Fresh s → exec .cycle s = .next t →
    t.resp.evRecover = false →
    (∀ a, t.activeKey = some a →
      (let q := (t.pad a).delta.toInt / 4
       (t.threshold.toNat : Int) =
        if (s.threshold.toNat : Int) < q then (q + s.threshold.toNat) / 2 else s.threshold.toNat))
      ∧ (t.activeKey = none →
        (∀ i, 30 < (t.pad i).delta.toInt → (∀ j, j < i → (t.pad j).delta.toInt ≤ 30) →
          (t.threshold.toNat : Int) = ((t.pad i).delta.toInt / 2 + s.threshold.toNat) / 2)
        ∧ ((∀ i, (t.pad i).delta.toInt ≤ 30) → t.threshold = s.threshold))

/-- R121, R126 and R127: a pad's delta and where its baseline goes in a RUN cycle. Snap where the reading is below it, drift by
one modulo 2^16 where no pad is pressed, the backup where the cycle recovers, and nothing else; in mode RUN no other command
writes it. -/
def Obligations.RunCycleMovesBaselines : Prop :=
  (∀ s : State, s.cfg.constants = Constants.source → s.mode = .run → Fresh s →
    ∃ t, exec .cycle s = .next t ∧ ∀ i,
      (let b := (s.pad i).baseline.toNat
       let m := (s.pad i).measured.toNat
       let snapped := if m < b then (b + m) / 2 else b
       (t.pad i).delta.toInt = (if m < b then 0 else (m : Int) - b)
        ∧ (t.pad i).baseline.toNat =
          if t.resp.evRecover then (s.pad i).backup.toNat
          else if t.activeKey = none then (snapped + 1) % 65536
          else snapped))
    ∧ ∀ (c : Instr) (s t : State), s.mode = .run → exec c s = .next t →
      (∃ i, (t.pad i).baseline ≠ (s.pad i).baseline) → c = .cycle ∧ Fresh s

/-- R130, R131, R133 and the table of R136: the key state, its timeout and its quiet countdown, `T` = 3 × `SAMPLE_RATE`; the
previous state is the one the cycle found, the next one the key of R123. -/
def Obligations.RunCycleKeyTransitions : Prop :=
  ∀ s : State, s.cfg.ok = true → s.cfg.constants = Constants.source → s.mode = .run → Fresh s →
    ∃ t key, exec .cycle s = .next t ∧ LastSet (fun i => (t.pad i).pressed) key
      ∧ t.activeKey = key ∧ t.activeKeyPrev = s.activeKey
      ∧ (match s.activeKey, key with
        | _, none =>
          t.timeoutCounter = s.timeoutCounter ∧ t.quietCounter.toNat = s.quietCounter.toNat - 1
            ∧ t.resp.evRecover = false
        | none, some _ =>
          t.timeoutCounter.toNat = 3 * s.cfg.sampleRate ∧ t.quietCounter = s.cfg.quietReload
            ∧ t.resp.evRecover = false
        | some q, some p =>
          t.quietCounter = s.quietCounter
            ∧ (if q ≠ p then t.timeoutCounter.toNat = 3 * s.cfg.sampleRate ∧ t.resp.evRecover = false
               else if s.timeoutCounter = 1 then
                t.timeoutCounter.toNat = 3 * s.cfg.sampleRate ∧ t.resp.evRecover = true
               else t.timeoutCounter = s.timeoutCounter - 1 ∧ t.resp.evRecover = false))

/-- R132 and R134: the stuck-key fault and recovery, its handler. It is taken exactly when the same pad stays active and the
decrement gives 0; it restores every baseline from the backup, the threshold to 100 and the timeout to `T`; flags, key, deltas
and quiet countdown are what the cycle without it leaves, and the sound side is touched by no more than a press edge's
trigger. -/
def Obligations.StuckKeyRecovers : Prop :=
  ∀ s t : State, s.cfg.ok = true → s.cfg.constants = Constants.source → s.mode = .run → Fresh s →
    exec .cycle s = .next t →
    (t.resp.evRecover = true ↔ (s.activeKey ≠ none ∧ t.activeKey = s.activeKey ∧ s.timeoutCounter = 1))
      ∧ (s.activeKey ≠ none → t.activeKey = s.activeKey → t.resp.evRecover = false →
        (t.timeoutCounter.toNat : Int) = ((s.timeoutCounter.toNat : Int) - 1) % 2 ^ 32)
      ∧ (t.resp.evRecover = true →
        (∀ i, (t.pad i).baseline = (s.pad i).backup) ∧ t.threshold = 100
          ∧ t.timeoutCounter.toNat = 3 * s.cfg.sampleRate
          ∧ t.activeKey = s.activeKey ∧ t.quietCounter = s.quietCounter ∧ t.mode = .run
          ∧ (∀ i, (t.pad i).pressedPrev = (s.pad i).pressed
            ∧ (t.pad i).delta.toInt = max 0 ((s.pad i).measured.toNat - (s.pad i).baseline.toNat : Int)
            ∧ ((t.pad i).pressed = true ↔ (s.threshold.toNat : Int) < (t.pad i).delta.toInt))
          ∧ t.snd = s.snd ∧ SameNoise s t ∧ SameErrors s t
          ∧ ((∀ i, (t.pad i).pressed = true → (t.pad i).pressedPrev = true) →
            t.sel = s.sel ∧ t.voices = s.voices))

/-- R135: the press-edge trigger. The highest-indexed pad that rose triggers its voice, and only that one; without a rising edge
no voice is triggered. -/
def Obligations.RunCycleTriggersHighestEdge : Prop :=
  ∀ s : State, s.mode = .run → Fresh s →
    ∃ t, exec .cycle s = .next t
      ∧ (let rose := fun i => (t.pad i).pressed && !(t.pad i).pressedPrev
         (∀ i, LastSet rose (some i) →
          (let v := s.cfg.voiceOfPad.get i
           t.resp.evTrig = some v ∧ t.sel = some v
            ∧ (t.voice v).phase = 0 ∧ (t.voice v).divider = 0
            ∧ (t.voice v).period = (match v with
                | .bass => 0
                | .snare => s.cfg.snareResPeriod
                | .buzz => s.cfg.buzzPeriod
                | .hihat => 0)
            ∧ ∀ u, u ≠ v → t.voice u = s.voice u))
         ∧ (LastSet rose none → t.resp.evTrig = none ∧ t.sel = s.sel ∧ t.voices = s.voices))

/-- The frame of a RUN cycle: it completes from every state with four fresh measurements, and leaves the readings, the backup,
the mode, the noise registers, the line, the pulse counter and the error flags (41_cycle_tracker_threshold_key.md section 1,
10_state.md section 8). -/
def Obligations.RunCycleFrame : Prop :=
  ∀ s : State, s.mode = .run → Fresh s →
    ∃ t, exec .cycle s = .next t
      ∧ (∀ i, (t.pad i).measured = (s.pad i).measured ∧ (t.pad i).backup = (s.pad i).backup
          ∧ (t.pad i).measValid = false)
      ∧ t.mode = .run ∧ t.calRounds = s.calRounds ∧ t.snd = s.snd ∧ SameNoise s t
      ∧ t.pulseCounter = s.pulseCounter ∧ SameErrors s t ∧ SameEnv s t
      ∧ t.resp.wake = false ∧ t.resp.nbit = false

/-- R139 (a) and (b), inferences the spec marks as its own: a threshold adjustment moves toward, never past, its target, which is
a quarter of the active pad's delta, or half that of the pad the idle scan stops at, the first above 30
(41_cycle_tracker_threshold_key.md section 8). -/
def Obligations.ThresholdMovesTowardTarget : Prop :=
  ∀ s t : State, s.cfg.constants = Constants.source → s.mode = .run → Fresh s → exec .cycle s = .next t →
    t.resp.evRecover = false →
    (∀ a, t.activeKey = some a → t.threshold ≠ s.threshold →
      s.threshold.toNat < t.threshold.toNat ∧ (t.threshold.toNat : Int) < (t.pad a).delta.toInt / 4)
      ∧ (t.activeKey = none → t.threshold ≠ s.threshold →
        t.threshold.toNat < s.threshold.toNat
          ∧ ∃ i, 30 < (t.pad i).delta.toInt ∧ (∀ j, j < i → (t.pad j).delta.toInt ≤ 30)
            ∧ (t.pad i).delta.toInt / 2 ≤ t.threshold.toNat)

/-- The source's drift bound as 90_conflicts.md C2 settles it: without recovery no baseline rises by more than one in a cycle,
and in an Idle cycle one whose reading is not below it rises by exactly one, unless it wraps. -/
def Obligations.BaselineRisesAtMostOne : Prop :=
  ∀ s t : State, s.cfg.constants = Constants.source → s.mode = .run → Fresh s → exec .cycle s = .next t →
    t.resp.evRecover = false →
    ∀ i, (t.pad i).baseline.toNat ≤ (s.pad i).baseline.toNat + 1
      ∧ (t.activeKey = none → (s.pad i).baseline.toNat ≤ (s.pad i).measured.toNat →
          (s.pad i).baseline.toNat < 65535 → (t.pad i).baseline.toNat = (s.pad i).baseline.toNat + 1)

/-- R138, an inference the spec marks as its own: with `T` = 3 × `SAMPLE_RATE`, if pad `p` became the active key in cycle 0
(which left the timeout at `T`) and is the active key in each of the cycles 1 to `T`, then cycles 1 to `T` − 1 only count down
and cycle `T` recovers. `before k` is the state in which cycle `k + 1` is issued: whatever commands came in between, none of
them was a `CYCLE`, so the key state is that of `after k` (41_cycle_tracker_threshold_key.md section 8). -/
def Obligations.StuckKeyTiming : Prop :=
  ∀ (after before : Nat → State) (p : PadIdx),
    (after 0).cfg.ok = true → (after 0).cfg.constants = Constants.source → (after 0).mode = .run →
      (after 0).activeKey = some p →
      (after 0).timeoutCounter.toNat = 3 * (after 0).cfg.sampleRate →
      (∀ k, k < 3 * (after 0).cfg.sampleRate →
        SameKeyState (after k) (before k) ∧ (before k).cfg = (after 0).cfg ∧ Fresh (before k)
          ∧ exec .cycle (before k) = .next (after (k + 1)) ∧ (after (k + 1)).activeKey = some p) →
      (∀ k, 1 ≤ k → k < 3 * (after 0).cfg.sampleRate →
        (after k).resp.evRecover = false
          ∧ (after k).timeoutCounter.toNat = 3 * (after 0).cfg.sampleRate - k)
        ∧ (after (3 * (after 0).cfg.sampleRate)).resp.evRecover = true
        ∧ (after (3 * (after 0).cfg.sampleRate)).threshold = 100
        ∧ (after (3 * (after 0).cfg.sampleRate)).timeoutCounter.toNat = 3 * (after 0).cfg.sampleRate
        ∧ ∀ i, ((after (3 * (after 0).cfg.sampleRate)).pad i).baseline
            = ((after (3 * (after 0).cfg.sampleRate)).pad i).backup

/-! ## Rules about the whole machine -/

/-- The lifecycle table of R110: only a `CYCLE` with four fresh measurements moves `mode`, SEED to CAL to RUN and never back. -/
def Obligations.LifecycleNeverGoesBack : Prop :=
  (∀ (i : Instr) (s t : State), exec i s = .next t → i ≠ .cycle → t.mode = s.mode ∧ t.calRounds = s.calRounds)
    ∧ ∀ s t : State, s.cfg.constants = Constants.source → exec .cycle s = .next t →
      ((¬ Fresh s) → t.mode = s.mode ∧ t.calRounds = s.calRounds)
        ∧ (Fresh s → s.mode = .seed → t.mode = .cal ∧ t.calRounds = 0)
        ∧ (Fresh s → s.mode = .cal → s.calRounds.toNat ≤ 13 →
            t.mode = .cal ∧ t.calRounds.toNat = s.calRounds.toNat + 1)
        ∧ (Fresh s → s.mode = .cal → s.calRounds.toNat = 14 →
            t.mode = .run ∧ ∀ i, (t.pad i).backup = (t.pad i).baseline)
        ∧ (Fresh s → s.mode = .run → t.mode = .run ∧ t.calRounds = s.calRounds)

/-- R25's "Written exactly once between two resets", as a rule about every command: the backup changes only in the `CYCLE` that
completes the fifteenth round, which takes mode CAL to RUN. -/
def Obligations.BackupWrittenOnlyByLastRound : Prop :=
  ∀ (i : Instr) (s t : State), s.cfg.constants = Constants.source → exec i s = .next t →
    (∃ p, (t.pad p).backup ≠ (s.pad p).backup) →
    i = .cycle ∧ Fresh s ∧ s.mode = .cal ∧ s.calRounds.toNat = 14 ∧ t.mode = .run

/-- The access table of 10_state.md section 8, pads and key state: `NOP`, `TICK`, `TRIG` and `NOISE` leave every pad, `MEAS`
writes only readings and freshness, and no command but `CYCLE` moves the key state. -/
def Obligations.OnlyCycleMovesKeyState : Prop :=
  ∀ (i : Instr) (s t : State), exec i s = .next t → i ≠ .cycle →
    SameKeyState s t ∧ (∀ q, SamePadButReading (s.pad q) (t.pad q))
      ∧ ((∀ p a b, i ≠ .meas p a b) → t.pads = s.pads)

/-- R192 and R31: a flag once set stays set until reset, and a step that sets one sets nothing but that flag and the
response. -/
def Obligations.ErrorFlagsAreSticky : Prop :=
  ∀ s t : State, step s = .next t → (∀ inp rest, s.inputs = inp :: rest → inp.rst = false) →
    (s.errIllegal = true → t.errIllegal = true) ∧ (s.errStale = true → t.errStale = true)
      ∧ (s.errIllegal ≠ t.errIllegal → ∃ rest, t = { s with
          inputs := rest, resp := Response.quiet, errIllegal := true })
      ∧ (s.errStale ≠ t.errStale → ∃ rest, t = { s with
          inputs := rest, resp := Response.quiet, errStale := true })

/-- R31's "No rule reads them: they change no behaviour of later commands": with other flags a command does all it did, but for
the flags; a stale `CYCLE` sets `err_stale`, every other command leaves both flags as they were. -/
def Obligations.ErrorFlagsAreInert : Prop :=
  ∀ (i : Instr) (s t : State) (x y : Bool), exec i s = .next t →
    ∃ u, exec i { s with errIllegal := x, errStale := y } = .next u
      ∧ u = { t with errIllegal := u.errIllegal, errStale := u.errStale } ∧ u.errIllegal = x
      ∧ ((i = .cycle ∧ ¬ Fresh s) → u.errStale = true) ∧ (¬ (i = .cycle ∧ ¬ Fresh s) → u.errStale = y)

/-- R199's first sentence, an inference the spec marks as its own: `TICK` and `MEAS` always commute (60_exceptions.md section
3). The response is the step's own: the `TICK`'s is the same in both orders. -/
def Obligations.TickCommutesWithMeas : Prop :=
  ∀ (s : State) (p : PadIdx) (a b : U16),
    ∃ ticked measured tickedLast measuredLast,
      exec .tick s = .next ticked ∧ exec (.meas p a b) ticked = .next measuredLast
        ∧ exec (.meas p a b) s = .next measured ∧ exec .tick measured = .next tickedLast
        ∧ tickedLast.resp = ticked.resp ∧ measuredLast.resp = measured.resp
        ∧ tickedLast = { measuredLast with resp := tickedLast.resp }

/-- R199's second sentence, an inference the spec marks as its own: `TICK` and `CYCLE` commute where the `CYCLE` triggers no
voice, unless it moves `quiet_counter` to or from 0 in the step in which the pulse counter reloads, that is with the counter at
1 (60_exceptions.md section 3). -/
def Obligations.TickCommutesWithCycle : Prop :=
  ∀ s cycled ticked : State, exec .cycle s = .next cycled → exec .tick s = .next ticked →
    cycled.resp.evTrig = none → (s.pulseCounter ≠ 1 ∨ (cycled.quietCounter = 0 ↔ s.quietCounter = 0)) →
      ∃ tickedLast cycledLast,
        exec .tick cycled = .next tickedLast ∧ exec .cycle ticked = .next cycledLast
          ∧ tickedLast.resp = ticked.resp ∧ cycledLast.resp = cycled.resp
          ∧ tickedLast = { cycledLast with resp := tickedLast.resp }

/-- R165 (c), an inference the spec marks as its own: what a `TICK` does to the sound side depends on nothing but the sound side
and the configuration (42_voices.md section 4). -/
def Obligations.VoicesSeeOnlyTheSoundSide : Prop :=
  ∀ s u : State, u.cfg = s.cfg → SameVoiceState s u →
    ∃ t v, exec .tick s = .next t ∧ exec .tick u = .next v ∧ SameVoiceState t v

/-- R184 (a), inferences the spec marks as its own: each register's update is a bijection that maps 0, and only 0, to 0
(43_noise.md section 3). -/
def Obligations.NoiseUpdateIsBijective : Prop :=
  (let next1 := lfsr1Next Constants.source.lfsr1Taps
   Function.Bijective next1 ∧ ∀ r, next1 r = 0 ↔ r = 0)
    ∧ (let next2 := lfsr2Next Constants.source.lfsr2Taps
       Function.Bijective next2 ∧ ∀ r, next2 r = 0 ↔ r = 0)

/-- R184 (b) for the first register, computed by the spec: from the seed it returns to 1 after 3855 calls and not before
(43_noise.md section 3). -/
def Obligations.FirstRegisterHasPeriod3855 : Prop :=
  ∀ r : Nat → BitVec 16, r 0 = 1 → (∀ k, r (k + 1) = lfsr1Next Constants.source.lfsr1Taps (r k)) →
    r 3855 = 1 ∧ ∀ k, 0 < k → k < 3855 → r k ≠ 1

/-- R34's wire form of an `Option`: `None` = `000`, `Some i` = `{1, i}`; the encodings `001`, `010`, `011` are never produced.
With it the error port of R31 (10_state.md sections 3 and 4). -/
def Obligations.PortEncodings : Prop :=
  optionPort none = 0 ∧ (∀ i : Fin 4, (optionPort (some i)).toNat = 4 + i.val)
    ∧ (∀ o, optionPort o ≠ 1 ∧ optionPort o ≠ 2 ∧ optionPort o ≠ 3)
    ∧ ∀ s : State, (errPort s).toNat = 2 * s.errStale.toNat + s.errIllegal.toNat

/-! ## Invariants -/

/-- From every state of the pad side's invariant, not only on runs from reset, a step gives a state that meets it
(10_state.md R24, R28, R34, R36; 41_cycle_tracker_threshold_key.md R137, R139 (c)). -/
def Obligations.StepKeepsPadSide : Prop := ∀ s t : State, PadSideOk s → step s = .next t → PadSideOk t

/-- Reset meets the pad side's invariant, under every configuration that meets R7 with the source's constants. -/
def Obligations.ResetMeetsPadSide : Prop :=
  ∀ c : Config, c.ok = true → c.constants = Constants.source → PadSideOk (State.resetWith c)

/-- From every state of the sound side's invariant a step gives a state that meets it: the noise registers are never 0, the
pulse counter never passes 0, no voice counter leaves its range (42_voices.md R157, R165 (a), (b); 43_noise.md R184 (a)). -/
def Obligations.StepKeepsSoundSide : Prop := ∀ s t : State, SoundSideOk s → step s = .next t → SoundSideOk t

/-- Reset meets the sound side's invariant, under every configuration that meets R7 with the source's constants. -/
def Obligations.ResetMeetsSoundSide : Prop :=
  ∀ c : Config, c.ok = true → c.constants = Constants.source → SoundSideOk (State.resetWith c)

/-! ## The constants of the configuration -/

/-- R5: every constant the source fixes has its name in the configuration, and the source's value there; the machine after
reset carries these. -/
def Obligations.ConstantsAreTheSources : Prop :=
  (let k := Constants.source
   k.nPads = 4 ∧ k.nVoices = 4 ∧ k.wBase = 16 ∧ k.wDelta = 32 ∧ k.wCnt = 32 ∧ k.thresholdInit.toNat = 100
    ∧ k.minLevel = 30 ∧ k.calRounds = 15 ∧ k.driftStep.toNat = 1 ∧ k.timeoutFactor = 3
    ∧ k.lfsr1Width = 16 ∧ (∀ b, b ∈ k.lfsr1Taps ↔ b = 15 ∨ b = 14 ∨ b = 12 ∨ b = 4)
    ∧ k.lfsr2Width = 15 ∧ (∀ b, b ∈ k.lfsr2Taps ↔ b = 14 ∨ b = 13)
    ∧ k.lfsrSeed = 1 ∧ k.pressDiv = 4 ∧ k.idleDiv = 2)
    ∧ State.reset.cfg.constants = Constants.source

/-- What R8 asks of the literals and 93_implementation_defined.md U12 of `LFSR1_TAPS`: `NOISE` follows the taps of whatever
configuration the state carries. The bit shifted into each register is the parity of its tapped bits. -/
def Obligations.NoiseFollowsConfiguredTaps : Prop :=
  ∀ s : State,
    ∃ t, exec .noise s = .next t
      ∧ (let odd (set : List Nat) := decide (set.length % 2 = 1)
         (t.lfsr1.getLsbD 0 = odd (s.cfg.constants.lfsr1Taps.filter fun b => s.lfsr1.getLsbD b))
          ∧ (t.lfsr2.getLsbD 0 = odd (s.cfg.constants.lfsr2Taps.filter fun b => s.lfsr2.getLsbD b))
          ∧ t.resp.nbit = t.lfsr1.getLsbD 0)
      ∧ (∀ k, k < 15 → t.lfsr1.getLsbD (k + 1) = s.lfsr1.getLsbD k)
      ∧ (∀ k, k < 14 → t.lfsr2.getLsbD (k + 1) = s.lfsr2.getLsbD k)

/-! ## Repetition -/

/-- 20_memory.md section 2 on repetition: `NOP`, and `MEAS` with the same operands, do nothing more the second time; `CYCLE`,
`TICK` and `NOISE` change the state again; each `TRIG` reports its event anew, and one of the sounding voice changes its
counters. (For a `TRIG` right after another see assumption log 17.) -/
def Obligations.RepeatedCommands : Prop :=
  (∀ (i : Instr) (s t : State), (i = .nop ∨ ∃ p a b, i = .meas p a b) → exec i s = .next t → exec i t = .next t)
    ∧ (∀ i : Instr, (i = .cycle ∨ i = .tick ∨ i = .noise) →
        ∃ s t u, exec i s = .next t ∧ exec i t = .next u ∧ u ≠ { t with resp := u.resp })
    ∧ ∀ v : VoiceId,
        (∀ s t : State, exec (.trig v) s = .next t → ∃ u, exec (.trig v) t = .next u ∧ u.resp.evTrig = some v)
          ∧ ∃ s ticked again : State, s.sel = some v ∧ exec .tick s = .next ticked
            ∧ exec (.trig v) ticked = .next again ∧ again.voice v ≠ ticked.voice v
end

