-- ==== Sys2Proof/Laws/Config.lean ====
section
/-! SUPPORT. The configuration check read as propositions, and the sweep law (spec/00_scope.md R7, 42_voices.md R162). -/

namespace Sys2Proof

/-- The source's constants fit the model's types. -/
@[simp] theorem Constants.source_fit : Constants.source.fit = true := by decide

/-- The check, conjunct by conjunct. -/
theorem Config.ok_iff (c : Config) : c.ok = true ↔
    c.constants.fit = true ∧ 1 ≤ c.constants.timeoutFactor * c.sampleRate
      ∧ c.constants.timeoutFactor * c.sampleRate ≤ 2 ^ 32 - 1 ∧ 1 ≤ c.pulsesActive.toNat ∧ 1 ≤ c.pulsesRelaxed.toNat
      ∧ 1 ≤ c.bassPeriodStart.toNat ∧ c.bassPeriodStart.toNat ≤ c.bassPeriodEnd.toNat
      ∧ 1 ≤ c.bassGlissTicks.toNat ∧ c.bassGlissTicks.toNat + c.bassEchoTicks.toNat ≤ 65535 ∧ c.sweepOk = true
      ∧ 1 ≤ c.snareResPeriod.toNat ∧ c.snareP2Ticks.toNat < c.snareP1Ticks.toNat
      ∧ c.snareP1Ticks.toNat + c.snareP2Ticks.toNat ≤ 65535 ∧ 1 ≤ c.buzzPeriod.toNat := by
  simp only [Config.ok, Bool.and_eq_true, decide_eq_true_eq]

/-- Read with `hi` past its end, a rising list starts at or above `lo` and never falls. -/
theorem Config.rises_iff (lo hi : U16) (l : List U16) :
    Config.rises lo hi l = true ↔
      (∀ t, lo.toNat ≤ (l.getD t hi).toNat)
        ∧ ∀ t u, t ≤ u → (l.getD t hi).toNat ≤ (l.getD u hi).toNat := by
  induction l generalizing lo with
  | nil => simp [Config.rises]
  | cons x xs ih =>
    simp only [Config.rises, Bool.and_eq_true, decide_eq_true_eq, ih]
    constructor
    · rintro ⟨first, above, mono⟩
      have all : ∀ t u, t ≤ u → ((x :: xs).getD t hi).toNat ≤ ((x :: xs).getD u hi).toNat := by
        intro t u htu
        match t, u with
        | 0, 0 => exact le_refl _
        | 0, u + 1 => exact above u
        | t + 1, u + 1 => exact mono t u (by omega)
      exact ⟨fun t => first.trans (all 0 t (by omega)), all⟩
    · rintro ⟨above, mono⟩
      exact ⟨above 0, fun t => mono 0 (t + 1) (by omega), fun t u htu => mono (t + 1) (u + 1) (by omega)⟩

namespace Machine

/-- `TIMEOUT_RELOAD` loses nothing in 32 bits under R7. -/
theorem timeoutReload_toNat {c : Config} (h : c.ok = true) :
    (timeoutReload c).toNat = c.constants.timeoutFactor * c.sampleRate := by
  have := (c.ok_iff.mp h).2.2.1
  simp only [timeoutReload, BitVec.toNat_ofNat]
  omega

/-- `TIMEOUT_RELOAD` under the source's constants. -/
theorem timeoutReload_source {c : Config} (h : c.ok = true) (hk : c.constants = Constants.source) :
    (timeoutReload c).toNat = 3 * c.sampleRate := by
  rw [timeoutReload_toNat h, hk]
  rfl

theorem bassPeriodAt_end (c : Config) (t : Nat) (h : c.bassGlissTicks.toNat ≤ t) :
    bassPeriodAt c t = c.bassPeriodEnd := by
  simp [bassPeriodAt, Nat.not_lt.mpr h]

/-- A supplied law is its table, read with `BASS_PERIOD_END` past its end. -/
theorem bassPeriodAt_table (c : Config) (table : List U16) (t : Nat) (h : c.bassPeriodTable = some table) :
    bassPeriodAt c t = (table.take c.bassGlissTicks.toNat).getD t c.bassPeriodEnd := by
  simp only [bassPeriodAt, h]
  split <;> rename_i ht <;> simp [List.getD_eq_getElem?_getD, ht]

/-- The default law loses nothing in 16 bits. -/
theorem bassPeriodAt_default (c : Config) (t : Nat) (h : c.bassPeriodTable = none) (ht : t < c.bassGlissTicks.toNat)
    (hle : c.bassPeriodStart.toNat ≤ c.bassPeriodEnd.toNat) :
    (bassPeriodAt c t).toNat
        = c.bassPeriodStart.toNat
          + t * (c.bassPeriodEnd.toNat - c.bassPeriodStart.toNat) / c.bassGlissTicks.toNat
      ∧ (bassPeriodAt c t).toNat ≤ c.bassPeriodEnd.toNat := by
  have hd : t * (c.bassPeriodEnd.toNat - c.bassPeriodStart.toNat) / c.bassGlissTicks.toNat
      ≤ c.bassPeriodEnd.toNat - c.bassPeriodStart.toNat :=
    Nat.div_le_of_le_mul (Nat.mul_le_mul_right _ ht.le)
  have := c.bassPeriodEnd.isLt
  simp only [bassPeriodAt, ht, if_true, h, BitVec.toNat_ofNat]
  generalize t * (c.bassPeriodEnd.toNat - c.bassPeriodStart.toNat) / c.bassGlissTicks.toNat = rise at hd ⊢
  omega

/-- Under R7 the sweep never falls below its start, so a bass period is at least 1. -/
theorem bassPeriodAt_pos {c : Config} (h : c.ok = true) (t : Nat) : 1 ≤ (bassPeriodAt c t).toNat := by
  obtain ⟨-, -, -, -, -, hs, hle, -, -, hsweep, -⟩ := c.ok_iff.mp h
  by_cases ht : t < c.bassGlissTicks.toNat
  · cases htab : c.bassPeriodTable with
    | none => rw [(bassPeriodAt_default c t htab ht hle).1]; exact hs.trans (Nat.le_add_right _ _)
    | some table =>
      simp only [Config.sweepOk, htab, Bool.and_eq_true, Config.rises_iff] at hsweep
      rw [bassPeriodAt_table c table t htab]
      exact hs.trans (hsweep.2.1 t)
  · rw [bassPeriodAt_end c t (by omega)]; omega

/-- Under R7 the sweep never falls. -/
theorem bassPeriodAt_mono {c : Config} (h : c.ok = true) {t u : Nat} (htu : t ≤ u) :
    (bassPeriodAt c t).toNat ≤ (bassPeriodAt c u).toNat := by
  obtain ⟨-, -, -, -, -, hs, hle, hg, -, hsweep, -⟩ := c.ok_iff.mp h
  cases htab : c.bassPeriodTable with
  | some table =>
    simp only [Config.sweepOk, htab, Bool.and_eq_true, Config.rises_iff] at hsweep
    rw [bassPeriodAt_table c table t htab, bassPeriodAt_table c table u htab]
    exact hsweep.2.2 t u htu
  | none =>
    by_cases hu : u < c.bassGlissTicks.toNat
    · rw [(bassPeriodAt_default c t htab (by omega) hle).1, (bassPeriodAt_default c u htab hu hle).1]
      exact Nat.add_le_add_left (Nat.div_le_div_right (Nat.mul_le_mul_right _ htu)) _
    · rw [bassPeriodAt_end c u (by omega)]
      by_cases ht : t < c.bassGlissTicks.toNat
      · exact (bassPeriodAt_default c t htab ht hle).2
      · rw [bassPeriodAt_end c t (by omega)]

end Machine

end Sys2Proof
end

