-- ==== Sys2Proof/Laws/Quad.lean ====
section
/-! SUPPORT. The laws of `Quad` (a write is read back, and leaves the other indices) and of voice numbers. -/

namespace Sys2Proof

/-- A statement about the four indices, index by index. -/
theorem forall_idx {P : Fin 4 → Prop} (h0 : P 0) (h1 : P 1) (h2 : P 2) (h3 : P 3) : ∀ i, P i := fun i =>
  match i with
  | 0 => h0
  | 1 => h1
  | 2 => h2
  | 3 => h3

@[simp] theorem Quad.get_set_same {α : Type} (q : Quad α) (i : Fin 4) (x : α) : (q.set i x).get i = x := by
  match i with
  | 0 | 1 | 2 | 3 => rfl

theorem Quad.get_set_ne {α : Type} (q : Quad α) (i j : Fin 4) (x : α) (h : j ≠ i) : (q.set i x).get j = q.get j := by
  match i, j with
  | 0, 1 | 0, 2 | 0, 3 | 1, 0 | 1, 2 | 1, 3 | 2, 0 | 2, 1 | 2, 3 | 3, 0 | 3, 1 | 3, 2 => rfl
  | 0, 0 | 1, 1 | 2, 2 | 3, 3 => exact absurd rfl h

@[simp] theorem Quad.get_map {α β : Type} (f : α → β) (q : Quad α) (i : Fin 4) : (q.map f).get i = f (q.get i) := by
  match i with
  | 0 | 1 | 2 | 3 => rfl

@[simp] theorem Quad.get_fill {α : Type} (x : α) (i : Fin 4) : (Quad.fill x).get i = x := by
  match i with
  | 0 | 1 | 2 | 3 => rfl

/-- Two quads that read the same at every index are the same. -/
theorem Quad.ext_get {α : Type} (q r : Quad α) (h : ∀ i, q.get i = r.get i) : q = r := by
  cases q; cases r
  simp only [Quad.mk.injEq]
  exact ⟨h 0, h 1, h 2, h 3⟩

theorem Quad.all_eq_true {α : Type} (test : α → Bool) (q : Quad α) :
    q.all test = true ↔ ∀ i, test (q.get i) = true := by
  constructor
  · intro h i
    simp only [Quad.all, Bool.and_eq_true] at h
    match i with
    | 0 => exact h.1.1.1
    | 1 => exact h.1.1.2
    | 2 => exact h.1.2
    | 3 => exact h.2
  · intro h
    simp only [Quad.all, Bool.and_eq_true]
    exact ⟨⟨⟨h 0, h 1⟩, h 2⟩, h 3⟩

theorem Quad.set_set_comm {α : Type} (q : Quad α) (i j : Fin 4) (x y : α) (h : j ≠ i) :
    (q.set i x).set j y = (q.set j y).set i x := by
  match i, j with
  | 0, 1 | 0, 2 | 0, 3 | 1, 0 | 1, 2 | 1, 3 | 2, 0 | 2, 1 | 2, 3 | 3, 0 | 3, 1 | 3, 2 => rfl
  | 0, 0 | 1, 1 | 2, 2 | 3, 3 => exact absurd rfl h

theorem VoiceId.idx_injective {v u : VoiceId} (h : v.idx = u.idx) : v = u := by
  cases v <;> cases u <;> first | rfl | exact absurd h (by decide)

@[simp] theorem VoiceId.ofIdx_idx (v : VoiceId) : VoiceId.ofIdx v.idx = v := by cases v <;> rfl

@[simp] theorem VoiceId.idx_ofIdx (i : Fin 4) : (VoiceId.ofIdx i).idx = i := by
  match i with
  | 0 | 1 | 2 | 3 => rfl

@[simp] theorem idxOfBits_bitsOfIdx (i : Fin 4) : idxOfBits (bitsOfIdx i) = i := by
  match i with
  | 0 | 1 | 2 | 3 => rfl

@[simp] theorem bitsOfIdx_idxOfBits (p : BitVec 2) : bitsOfIdx (idxOfBits p) = p := by
  apply BitVec.eq_of_toNat_eq
  simp [bitsOfIdx, idxOfBits]

end Sys2Proof
end

