-- ==== Sys2Proof/Laws/State.lean ====
section
/-! SUPPORT. One lemma per field per named update of the state, true by `rfl`, so that no later proof unfolds an update. -/

namespace Sys2Proof.Machine

/-! `State.respond` -/

@[simp] theorem State.respond_cfg (s : State) (r : Response) : (s.respond r).cfg = s.cfg := rfl
@[simp] theorem State.respond_inputs (s : State) (r : Response) : (s.respond r).inputs = s.inputs := rfl
@[simp] theorem State.respond_resp (s : State) (r : Response) : (s.respond r).resp = r := rfl
@[simp] theorem State.respond_pads (s : State) (r : Response) : (s.respond r).pads = s.pads := rfl
@[simp] theorem State.respond_mode (s : State) (r : Response) : (s.respond r).mode = s.mode := rfl
@[simp] theorem State.respond_calRounds (s : State) (r : Response) : (s.respond r).calRounds = s.calRounds := rfl
@[simp] theorem State.respond_threshold (s : State) (r : Response) : (s.respond r).threshold = s.threshold := rfl
@[simp] theorem State.respond_activeKey (s : State) (r : Response) : (s.respond r).activeKey = s.activeKey := rfl
@[simp] theorem State.respond_activeKeyPrev (s : State) (r : Response) : (s.respond r).activeKeyPrev = s.activeKeyPrev := rfl
@[simp] theorem State.respond_timeoutCounter (s : State) (r : Response) : (s.respond r).timeoutCounter = s.timeoutCounter := rfl
@[simp] theorem State.respond_quietCounter (s : State) (r : Response) : (s.respond r).quietCounter = s.quietCounter := rfl
@[simp] theorem State.respond_sel (s : State) (r : Response) : (s.respond r).sel = s.sel := rfl
@[simp] theorem State.respond_voices (s : State) (r : Response) : (s.respond r).voices = s.voices := rfl
@[simp] theorem State.respond_lfsr1 (s : State) (r : Response) : (s.respond r).lfsr1 = s.lfsr1 := rfl
@[simp] theorem State.respond_lfsr2 (s : State) (r : Response) : (s.respond r).lfsr2 = s.lfsr2 := rfl
@[simp] theorem State.respond_snd (s : State) (r : Response) : (s.respond r).snd = s.snd := rfl
@[simp] theorem State.respond_pulseCounter (s : State) (r : Response) : (s.respond r).pulseCounter = s.pulseCounter := rfl
@[simp] theorem State.respond_errIllegal (s : State) (r : Response) : (s.respond r).errIllegal = s.errIllegal := rfl
@[simp] theorem State.respond_errStale (s : State) (r : Response) : (s.respond r).errStale = s.errStale := rfl

/-! `State.setPad` -/

@[simp] theorem State.setPad_cfg (s : State) (i : PadIdx) (x : Pad) : (s.setPad i x).cfg = s.cfg := rfl
@[simp] theorem State.setPad_inputs (s : State) (i : PadIdx) (x : Pad) : (s.setPad i x).inputs = s.inputs := rfl
@[simp] theorem State.setPad_resp (s : State) (i : PadIdx) (x : Pad) : (s.setPad i x).resp = s.resp := rfl
@[simp] theorem State.setPad_pads (s : State) (i : PadIdx) (x : Pad) : (s.setPad i x).pads = s.pads.set i x := rfl
@[simp] theorem State.setPad_mode (s : State) (i : PadIdx) (x : Pad) : (s.setPad i x).mode = s.mode := rfl
@[simp] theorem State.setPad_calRounds (s : State) (i : PadIdx) (x : Pad) : (s.setPad i x).calRounds = s.calRounds := rfl
@[simp] theorem State.setPad_threshold (s : State) (i : PadIdx) (x : Pad) : (s.setPad i x).threshold = s.threshold := rfl
@[simp] theorem State.setPad_activeKey (s : State) (i : PadIdx) (x : Pad) : (s.setPad i x).activeKey = s.activeKey := rfl
@[simp] theorem State.setPad_activeKeyPrev (s : State) (i : PadIdx) (x : Pad) : (s.setPad i x).activeKeyPrev = s.activeKeyPrev := rfl
@[simp] theorem State.setPad_timeoutCounter (s : State) (i : PadIdx) (x : Pad) : (s.setPad i x).timeoutCounter = s.timeoutCounter := rfl
@[simp] theorem State.setPad_quietCounter (s : State) (i : PadIdx) (x : Pad) : (s.setPad i x).quietCounter = s.quietCounter := rfl
@[simp] theorem State.setPad_sel (s : State) (i : PadIdx) (x : Pad) : (s.setPad i x).sel = s.sel := rfl
@[simp] theorem State.setPad_voices (s : State) (i : PadIdx) (x : Pad) : (s.setPad i x).voices = s.voices := rfl
@[simp] theorem State.setPad_lfsr1 (s : State) (i : PadIdx) (x : Pad) : (s.setPad i x).lfsr1 = s.lfsr1 := rfl
@[simp] theorem State.setPad_lfsr2 (s : State) (i : PadIdx) (x : Pad) : (s.setPad i x).lfsr2 = s.lfsr2 := rfl
@[simp] theorem State.setPad_snd (s : State) (i : PadIdx) (x : Pad) : (s.setPad i x).snd = s.snd := rfl
@[simp] theorem State.setPad_pulseCounter (s : State) (i : PadIdx) (x : Pad) : (s.setPad i x).pulseCounter = s.pulseCounter := rfl
@[simp] theorem State.setPad_errIllegal (s : State) (i : PadIdx) (x : Pad) : (s.setPad i x).errIllegal = s.errIllegal := rfl
@[simp] theorem State.setPad_errStale (s : State) (i : PadIdx) (x : Pad) : (s.setPad i x).errStale = s.errStale := rfl

/-! `State.mapPads` -/

@[simp] theorem State.mapPads_cfg (f : Pad → Pad) (s : State) : (s.mapPads f).cfg = s.cfg := rfl
@[simp] theorem State.mapPads_inputs (f : Pad → Pad) (s : State) : (s.mapPads f).inputs = s.inputs := rfl
@[simp] theorem State.mapPads_resp (f : Pad → Pad) (s : State) : (s.mapPads f).resp = s.resp := rfl
@[simp] theorem State.mapPads_pads (f : Pad → Pad) (s : State) : (s.mapPads f).pads = s.pads.map f := rfl
@[simp] theorem State.mapPads_mode (f : Pad → Pad) (s : State) : (s.mapPads f).mode = s.mode := rfl
@[simp] theorem State.mapPads_calRounds (f : Pad → Pad) (s : State) : (s.mapPads f).calRounds = s.calRounds := rfl
@[simp] theorem State.mapPads_threshold (f : Pad → Pad) (s : State) : (s.mapPads f).threshold = s.threshold := rfl
@[simp] theorem State.mapPads_activeKey (f : Pad → Pad) (s : State) : (s.mapPads f).activeKey = s.activeKey := rfl
@[simp] theorem State.mapPads_activeKeyPrev (f : Pad → Pad) (s : State) : (s.mapPads f).activeKeyPrev = s.activeKeyPrev := rfl
@[simp] theorem State.mapPads_timeoutCounter (f : Pad → Pad) (s : State) : (s.mapPads f).timeoutCounter = s.timeoutCounter := rfl
@[simp] theorem State.mapPads_quietCounter (f : Pad → Pad) (s : State) : (s.mapPads f).quietCounter = s.quietCounter := rfl
@[simp] theorem State.mapPads_sel (f : Pad → Pad) (s : State) : (s.mapPads f).sel = s.sel := rfl
@[simp] theorem State.mapPads_voices (f : Pad → Pad) (s : State) : (s.mapPads f).voices = s.voices := rfl
@[simp] theorem State.mapPads_lfsr1 (f : Pad → Pad) (s : State) : (s.mapPads f).lfsr1 = s.lfsr1 := rfl
@[simp] theorem State.mapPads_lfsr2 (f : Pad → Pad) (s : State) : (s.mapPads f).lfsr2 = s.lfsr2 := rfl
@[simp] theorem State.mapPads_snd (f : Pad → Pad) (s : State) : (s.mapPads f).snd = s.snd := rfl
@[simp] theorem State.mapPads_pulseCounter (f : Pad → Pad) (s : State) : (s.mapPads f).pulseCounter = s.pulseCounter := rfl
@[simp] theorem State.mapPads_errIllegal (f : Pad → Pad) (s : State) : (s.mapPads f).errIllegal = s.errIllegal := rfl
@[simp] theorem State.mapPads_errStale (f : Pad → Pad) (s : State) : (s.mapPads f).errStale = s.errStale := rfl

/-! `State.setVoice` -/

@[simp] theorem State.setVoice_cfg (s : State) (v : VoiceId) (x : Voice) : (s.setVoice v x).cfg = s.cfg := rfl
@[simp] theorem State.setVoice_inputs (s : State) (v : VoiceId) (x : Voice) : (s.setVoice v x).inputs = s.inputs := rfl
@[simp] theorem State.setVoice_resp (s : State) (v : VoiceId) (x : Voice) : (s.setVoice v x).resp = s.resp := rfl
@[simp] theorem State.setVoice_pads (s : State) (v : VoiceId) (x : Voice) : (s.setVoice v x).pads = s.pads := rfl
@[simp] theorem State.setVoice_mode (s : State) (v : VoiceId) (x : Voice) : (s.setVoice v x).mode = s.mode := rfl
@[simp] theorem State.setVoice_calRounds (s : State) (v : VoiceId) (x : Voice) : (s.setVoice v x).calRounds = s.calRounds := rfl
@[simp] theorem State.setVoice_threshold (s : State) (v : VoiceId) (x : Voice) : (s.setVoice v x).threshold = s.threshold := rfl
@[simp] theorem State.setVoice_activeKey (s : State) (v : VoiceId) (x : Voice) : (s.setVoice v x).activeKey = s.activeKey := rfl
@[simp] theorem State.setVoice_activeKeyPrev (s : State) (v : VoiceId) (x : Voice) : (s.setVoice v x).activeKeyPrev = s.activeKeyPrev := rfl
@[simp] theorem State.setVoice_timeoutCounter (s : State) (v : VoiceId) (x : Voice) : (s.setVoice v x).timeoutCounter = s.timeoutCounter := rfl
@[simp] theorem State.setVoice_quietCounter (s : State) (v : VoiceId) (x : Voice) : (s.setVoice v x).quietCounter = s.quietCounter := rfl
@[simp] theorem State.setVoice_sel (s : State) (v : VoiceId) (x : Voice) : (s.setVoice v x).sel = s.sel := rfl
@[simp] theorem State.setVoice_voices (s : State) (v : VoiceId) (x : Voice) : (s.setVoice v x).voices = s.voices.set v.idx x := rfl
@[simp] theorem State.setVoice_lfsr1 (s : State) (v : VoiceId) (x : Voice) : (s.setVoice v x).lfsr1 = s.lfsr1 := rfl
@[simp] theorem State.setVoice_lfsr2 (s : State) (v : VoiceId) (x : Voice) : (s.setVoice v x).lfsr2 = s.lfsr2 := rfl
@[simp] theorem State.setVoice_snd (s : State) (v : VoiceId) (x : Voice) : (s.setVoice v x).snd = s.snd := rfl
@[simp] theorem State.setVoice_pulseCounter (s : State) (v : VoiceId) (x : Voice) : (s.setVoice v x).pulseCounter = s.pulseCounter := rfl
@[simp] theorem State.setVoice_errIllegal (s : State) (v : VoiceId) (x : Voice) : (s.setVoice v x).errIllegal = s.errIllegal := rfl
@[simp] theorem State.setVoice_errStale (s : State) (v : VoiceId) (x : Voice) : (s.setVoice v x).errStale = s.errStale := rfl

/-! `advanceNoise` -/

@[simp] theorem advanceNoise_cfg (s : State) : (advanceNoise s).cfg = s.cfg := rfl
@[simp] theorem advanceNoise_inputs (s : State) : (advanceNoise s).inputs = s.inputs := rfl
@[simp] theorem advanceNoise_resp (s : State) : (advanceNoise s).resp = s.resp := rfl
@[simp] theorem advanceNoise_pads (s : State) : (advanceNoise s).pads = s.pads := rfl
@[simp] theorem advanceNoise_mode (s : State) : (advanceNoise s).mode = s.mode := rfl
@[simp] theorem advanceNoise_calRounds (s : State) : (advanceNoise s).calRounds = s.calRounds := rfl
@[simp] theorem advanceNoise_threshold (s : State) : (advanceNoise s).threshold = s.threshold := rfl
@[simp] theorem advanceNoise_activeKey (s : State) : (advanceNoise s).activeKey = s.activeKey := rfl
@[simp] theorem advanceNoise_activeKeyPrev (s : State) : (advanceNoise s).activeKeyPrev = s.activeKeyPrev := rfl
@[simp] theorem advanceNoise_timeoutCounter (s : State) : (advanceNoise s).timeoutCounter = s.timeoutCounter := rfl
@[simp] theorem advanceNoise_quietCounter (s : State) : (advanceNoise s).quietCounter = s.quietCounter := rfl
@[simp] theorem advanceNoise_sel (s : State) : (advanceNoise s).sel = s.sel := rfl
@[simp] theorem advanceNoise_voices (s : State) : (advanceNoise s).voices = s.voices := rfl
@[simp] theorem advanceNoise_lfsr1 (s : State) : (advanceNoise s).lfsr1 = lfsr1Next s.cfg.constants.lfsr1Taps s.lfsr1 := rfl
@[simp] theorem advanceNoise_lfsr2 (s : State) : (advanceNoise s).lfsr2 = lfsr2Next s.cfg.constants.lfsr2Taps s.lfsr2 := rfl
@[simp] theorem advanceNoise_snd (s : State) : (advanceNoise s).snd = s.snd := rfl
@[simp] theorem advanceNoise_pulseCounter (s : State) : (advanceNoise s).pulseCounter = s.pulseCounter := rfl
@[simp] theorem advanceNoise_errIllegal (s : State) : (advanceNoise s).errIllegal = s.errIllegal := rfl
@[simp] theorem advanceNoise_errStale (s : State) : (advanceNoise s).errStale = s.errStale := rfl

/-! `toggleIf` -/

@[simp] theorem toggleIf_cfg (b : Bool) (s : State) : (toggleIf b s).cfg = s.cfg := rfl
@[simp] theorem toggleIf_inputs (b : Bool) (s : State) : (toggleIf b s).inputs = s.inputs := rfl
@[simp] theorem toggleIf_resp (b : Bool) (s : State) : (toggleIf b s).resp = s.resp := rfl
@[simp] theorem toggleIf_pads (b : Bool) (s : State) : (toggleIf b s).pads = s.pads := rfl
@[simp] theorem toggleIf_mode (b : Bool) (s : State) : (toggleIf b s).mode = s.mode := rfl
@[simp] theorem toggleIf_calRounds (b : Bool) (s : State) : (toggleIf b s).calRounds = s.calRounds := rfl
@[simp] theorem toggleIf_threshold (b : Bool) (s : State) : (toggleIf b s).threshold = s.threshold := rfl
@[simp] theorem toggleIf_activeKey (b : Bool) (s : State) : (toggleIf b s).activeKey = s.activeKey := rfl
@[simp] theorem toggleIf_activeKeyPrev (b : Bool) (s : State) : (toggleIf b s).activeKeyPrev = s.activeKeyPrev := rfl
@[simp] theorem toggleIf_timeoutCounter (b : Bool) (s : State) : (toggleIf b s).timeoutCounter = s.timeoutCounter := rfl
@[simp] theorem toggleIf_quietCounter (b : Bool) (s : State) : (toggleIf b s).quietCounter = s.quietCounter := rfl
@[simp] theorem toggleIf_sel (b : Bool) (s : State) : (toggleIf b s).sel = s.sel := rfl
@[simp] theorem toggleIf_voices (b : Bool) (s : State) : (toggleIf b s).voices = s.voices := rfl
@[simp] theorem toggleIf_lfsr1 (b : Bool) (s : State) : (toggleIf b s).lfsr1 = s.lfsr1 := rfl
@[simp] theorem toggleIf_lfsr2 (b : Bool) (s : State) : (toggleIf b s).lfsr2 = s.lfsr2 := rfl
@[simp] theorem toggleIf_snd (b : Bool) (s : State) : (toggleIf b s).snd = (s.snd ^^ b) := rfl
@[simp] theorem toggleIf_pulseCounter (b : Bool) (s : State) : (toggleIf b s).pulseCounter = s.pulseCounter := rfl
@[simp] theorem toggleIf_errIllegal (b : Bool) (s : State) : (toggleIf b s).errIllegal = s.errIllegal := rfl
@[simp] theorem toggleIf_errStale (b : Bool) (s : State) : (toggleIf b s).errStale = s.errStale := rfl

/-! `trigger` -/

@[simp] theorem trigger_cfg (v : VoiceId) (s : State) : (trigger v s).cfg = s.cfg := rfl
@[simp] theorem trigger_inputs (v : VoiceId) (s : State) : (trigger v s).inputs = s.inputs := rfl
@[simp] theorem trigger_resp (v : VoiceId) (s : State) : (trigger v s).resp = { s.resp with evTrig := some v } := rfl
@[simp] theorem trigger_pads (v : VoiceId) (s : State) : (trigger v s).pads = s.pads := rfl
@[simp] theorem trigger_mode (v : VoiceId) (s : State) : (trigger v s).mode = s.mode := rfl
@[simp] theorem trigger_calRounds (v : VoiceId) (s : State) : (trigger v s).calRounds = s.calRounds := rfl
@[simp] theorem trigger_threshold (v : VoiceId) (s : State) : (trigger v s).threshold = s.threshold := rfl
@[simp] theorem trigger_activeKey (v : VoiceId) (s : State) : (trigger v s).activeKey = s.activeKey := rfl
@[simp] theorem trigger_activeKeyPrev (v : VoiceId) (s : State) : (trigger v s).activeKeyPrev = s.activeKeyPrev := rfl
@[simp] theorem trigger_timeoutCounter (v : VoiceId) (s : State) : (trigger v s).timeoutCounter = s.timeoutCounter := rfl
@[simp] theorem trigger_quietCounter (v : VoiceId) (s : State) : (trigger v s).quietCounter = s.quietCounter := rfl
@[simp] theorem trigger_sel (v : VoiceId) (s : State) : (trigger v s).sel = some v := rfl
@[simp] theorem trigger_voices (v : VoiceId) (s : State) : (trigger v s).voices = s.voices.set v.idx (triggeredVoice s.cfg v) := rfl
@[simp] theorem trigger_lfsr1 (v : VoiceId) (s : State) : (trigger v s).lfsr1 = s.lfsr1 := rfl
@[simp] theorem trigger_lfsr2 (v : VoiceId) (s : State) : (trigger v s).lfsr2 = s.lfsr2 := rfl
@[simp] theorem trigger_snd (v : VoiceId) (s : State) : (trigger v s).snd = s.snd := rfl
@[simp] theorem trigger_pulseCounter (v : VoiceId) (s : State) : (trigger v s).pulseCounter = s.pulseCounter := rfl
@[simp] theorem trigger_errIllegal (v : VoiceId) (s : State) : (trigger v s).errIllegal = s.errIllegal := rfl
@[simp] theorem trigger_errStale (v : VoiceId) (s : State) : (trigger v s).errStale = s.errStale := rfl

/-! `recover` -/

@[simp] theorem recover_cfg (s : State) : (recover s).cfg = s.cfg := rfl
@[simp] theorem recover_inputs (s : State) : (recover s).inputs = s.inputs := rfl
@[simp] theorem recover_resp (s : State) : (recover s).resp = { s.resp with evRecover := true } := rfl
@[simp] theorem recover_pads (s : State) : (recover s).pads = s.pads.map fun p => { p with baseline := p.backup } := rfl
@[simp] theorem recover_mode (s : State) : (recover s).mode = s.mode := rfl
@[simp] theorem recover_calRounds (s : State) : (recover s).calRounds = s.calRounds := rfl
@[simp] theorem recover_threshold (s : State) : (recover s).threshold = s.cfg.constants.thresholdInit := rfl
@[simp] theorem recover_activeKey (s : State) : (recover s).activeKey = s.activeKey := rfl
@[simp] theorem recover_activeKeyPrev (s : State) : (recover s).activeKeyPrev = s.activeKeyPrev := rfl
@[simp] theorem recover_timeoutCounter (s : State) : (recover s).timeoutCounter = timeoutReload s.cfg := rfl
@[simp] theorem recover_quietCounter (s : State) : (recover s).quietCounter = s.quietCounter := rfl
@[simp] theorem recover_sel (s : State) : (recover s).sel = s.sel := rfl
@[simp] theorem recover_voices (s : State) : (recover s).voices = s.voices := rfl
@[simp] theorem recover_lfsr1 (s : State) : (recover s).lfsr1 = s.lfsr1 := rfl
@[simp] theorem recover_lfsr2 (s : State) : (recover s).lfsr2 = s.lfsr2 := rfl
@[simp] theorem recover_snd (s : State) : (recover s).snd = s.snd := rfl
@[simp] theorem recover_pulseCounter (s : State) : (recover s).pulseCounter = s.pulseCounter := rfl
@[simp] theorem recover_errIllegal (s : State) : (recover s).errIllegal = s.errIllegal := rfl
@[simp] theorem recover_errStale (s : State) : (recover s).errStale = s.errStale := rfl

/-! `flagIllegal` -/

@[simp] theorem flagIllegal_cfg (s : State) : (flagIllegal s).cfg = s.cfg := rfl
@[simp] theorem flagIllegal_inputs (s : State) : (flagIllegal s).inputs = s.inputs := rfl
@[simp] theorem flagIllegal_resp (s : State) : (flagIllegal s).resp = s.resp := rfl
@[simp] theorem flagIllegal_pads (s : State) : (flagIllegal s).pads = s.pads := rfl
@[simp] theorem flagIllegal_mode (s : State) : (flagIllegal s).mode = s.mode := rfl
@[simp] theorem flagIllegal_calRounds (s : State) : (flagIllegal s).calRounds = s.calRounds := rfl
@[simp] theorem flagIllegal_threshold (s : State) : (flagIllegal s).threshold = s.threshold := rfl
@[simp] theorem flagIllegal_activeKey (s : State) : (flagIllegal s).activeKey = s.activeKey := rfl
@[simp] theorem flagIllegal_activeKeyPrev (s : State) : (flagIllegal s).activeKeyPrev = s.activeKeyPrev := rfl
@[simp] theorem flagIllegal_timeoutCounter (s : State) : (flagIllegal s).timeoutCounter = s.timeoutCounter := rfl
@[simp] theorem flagIllegal_quietCounter (s : State) : (flagIllegal s).quietCounter = s.quietCounter := rfl
@[simp] theorem flagIllegal_sel (s : State) : (flagIllegal s).sel = s.sel := rfl
@[simp] theorem flagIllegal_voices (s : State) : (flagIllegal s).voices = s.voices := rfl
@[simp] theorem flagIllegal_lfsr1 (s : State) : (flagIllegal s).lfsr1 = s.lfsr1 := rfl
@[simp] theorem flagIllegal_lfsr2 (s : State) : (flagIllegal s).lfsr2 = s.lfsr2 := rfl
@[simp] theorem flagIllegal_snd (s : State) : (flagIllegal s).snd = s.snd := rfl
@[simp] theorem flagIllegal_pulseCounter (s : State) : (flagIllegal s).pulseCounter = s.pulseCounter := rfl
@[simp] theorem flagIllegal_errIllegal (s : State) : (flagIllegal s).errIllegal = true := rfl
@[simp] theorem flagIllegal_errStale (s : State) : (flagIllegal s).errStale = s.errStale := rfl

/-! `flagStale` -/

@[simp] theorem flagStale_cfg (s : State) : (flagStale s).cfg = s.cfg := rfl
@[simp] theorem flagStale_inputs (s : State) : (flagStale s).inputs = s.inputs := rfl
@[simp] theorem flagStale_resp (s : State) : (flagStale s).resp = s.resp := rfl
@[simp] theorem flagStale_pads (s : State) : (flagStale s).pads = s.pads := rfl
@[simp] theorem flagStale_mode (s : State) : (flagStale s).mode = s.mode := rfl
@[simp] theorem flagStale_calRounds (s : State) : (flagStale s).calRounds = s.calRounds := rfl
@[simp] theorem flagStale_threshold (s : State) : (flagStale s).threshold = s.threshold := rfl
@[simp] theorem flagStale_activeKey (s : State) : (flagStale s).activeKey = s.activeKey := rfl
@[simp] theorem flagStale_activeKeyPrev (s : State) : (flagStale s).activeKeyPrev = s.activeKeyPrev := rfl
@[simp] theorem flagStale_timeoutCounter (s : State) : (flagStale s).timeoutCounter = s.timeoutCounter := rfl
@[simp] theorem flagStale_quietCounter (s : State) : (flagStale s).quietCounter = s.quietCounter := rfl
@[simp] theorem flagStale_sel (s : State) : (flagStale s).sel = s.sel := rfl
@[simp] theorem flagStale_voices (s : State) : (flagStale s).voices = s.voices := rfl
@[simp] theorem flagStale_lfsr1 (s : State) : (flagStale s).lfsr1 = s.lfsr1 := rfl
@[simp] theorem flagStale_lfsr2 (s : State) : (flagStale s).lfsr2 = s.lfsr2 := rfl
@[simp] theorem flagStale_snd (s : State) : (flagStale s).snd = s.snd := rfl
@[simp] theorem flagStale_pulseCounter (s : State) : (flagStale s).pulseCounter = s.pulseCounter := rfl
@[simp] theorem flagStale_errIllegal (s : State) : (flagStale s).errIllegal = s.errIllegal := rfl
@[simp] theorem flagStale_errStale (s : State) : (flagStale s).errStale = true := rfl

/-! `clearFresh` -/

@[simp] theorem clearFresh_cfg (s : State) : (clearFresh s).cfg = s.cfg := rfl
@[simp] theorem clearFresh_inputs (s : State) : (clearFresh s).inputs = s.inputs := rfl
@[simp] theorem clearFresh_resp (s : State) : (clearFresh s).resp = s.resp := rfl
@[simp] theorem clearFresh_pads (s : State) : (clearFresh s).pads = s.pads.map fun p => { p with measValid := false } := rfl
@[simp] theorem clearFresh_mode (s : State) : (clearFresh s).mode = s.mode := rfl
@[simp] theorem clearFresh_calRounds (s : State) : (clearFresh s).calRounds = s.calRounds := rfl
@[simp] theorem clearFresh_threshold (s : State) : (clearFresh s).threshold = s.threshold := rfl
@[simp] theorem clearFresh_activeKey (s : State) : (clearFresh s).activeKey = s.activeKey := rfl
@[simp] theorem clearFresh_activeKeyPrev (s : State) : (clearFresh s).activeKeyPrev = s.activeKeyPrev := rfl
@[simp] theorem clearFresh_timeoutCounter (s : State) : (clearFresh s).timeoutCounter = s.timeoutCounter := rfl
@[simp] theorem clearFresh_quietCounter (s : State) : (clearFresh s).quietCounter = s.quietCounter := rfl
@[simp] theorem clearFresh_sel (s : State) : (clearFresh s).sel = s.sel := rfl
@[simp] theorem clearFresh_voices (s : State) : (clearFresh s).voices = s.voices := rfl
@[simp] theorem clearFresh_lfsr1 (s : State) : (clearFresh s).lfsr1 = s.lfsr1 := rfl
@[simp] theorem clearFresh_lfsr2 (s : State) : (clearFresh s).lfsr2 = s.lfsr2 := rfl
@[simp] theorem clearFresh_snd (s : State) : (clearFresh s).snd = s.snd := rfl
@[simp] theorem clearFresh_pulseCounter (s : State) : (clearFresh s).pulseCounter = s.pulseCounter := rfl
@[simp] theorem clearFresh_errIllegal (s : State) : (clearFresh s).errIllegal = s.errIllegal := rfl
@[simp] theorem clearFresh_errStale (s : State) : (clearFresh s).errStale = s.errStale := rfl

/-! `takeInput` -/

@[simp] theorem takeInput_cfg (rest : List PortInput) (s : State) : (takeInput rest s).cfg = s.cfg := rfl
@[simp] theorem takeInput_inputs (rest : List PortInput) (s : State) : (takeInput rest s).inputs = rest := rfl
@[simp] theorem takeInput_resp (rest : List PortInput) (s : State) : (takeInput rest s).resp = s.resp := rfl
@[simp] theorem takeInput_pads (rest : List PortInput) (s : State) : (takeInput rest s).pads = s.pads := rfl
@[simp] theorem takeInput_mode (rest : List PortInput) (s : State) : (takeInput rest s).mode = s.mode := rfl
@[simp] theorem takeInput_calRounds (rest : List PortInput) (s : State) : (takeInput rest s).calRounds = s.calRounds := rfl
@[simp] theorem takeInput_threshold (rest : List PortInput) (s : State) : (takeInput rest s).threshold = s.threshold := rfl
@[simp] theorem takeInput_activeKey (rest : List PortInput) (s : State) : (takeInput rest s).activeKey = s.activeKey := rfl
@[simp] theorem takeInput_activeKeyPrev (rest : List PortInput) (s : State) : (takeInput rest s).activeKeyPrev = s.activeKeyPrev := rfl
@[simp] theorem takeInput_timeoutCounter (rest : List PortInput) (s : State) : (takeInput rest s).timeoutCounter = s.timeoutCounter := rfl
@[simp] theorem takeInput_quietCounter (rest : List PortInput) (s : State) : (takeInput rest s).quietCounter = s.quietCounter := rfl
@[simp] theorem takeInput_sel (rest : List PortInput) (s : State) : (takeInput rest s).sel = s.sel := rfl
@[simp] theorem takeInput_voices (rest : List PortInput) (s : State) : (takeInput rest s).voices = s.voices := rfl
@[simp] theorem takeInput_lfsr1 (rest : List PortInput) (s : State) : (takeInput rest s).lfsr1 = s.lfsr1 := rfl
@[simp] theorem takeInput_lfsr2 (rest : List PortInput) (s : State) : (takeInput rest s).lfsr2 = s.lfsr2 := rfl
@[simp] theorem takeInput_snd (rest : List PortInput) (s : State) : (takeInput rest s).snd = s.snd := rfl
@[simp] theorem takeInput_pulseCounter (rest : List PortInput) (s : State) : (takeInput rest s).pulseCounter = s.pulseCounter := rfl
@[simp] theorem takeInput_errIllegal (rest : List PortInput) (s : State) : (takeInput rest s).errIllegal = s.errIllegal := rfl
@[simp] theorem takeInput_errStale (rest : List PortInput) (s : State) : (takeInput rest s).errStale = s.errStale := rfl

/-! Reading one pad or one voice after an update. -/

@[simp] theorem pads_get (s : State) (i : PadIdx) : s.pads.get i = s.pad i := rfl

@[simp] theorem State.setPad_pad_same (s : State) (i : PadIdx) (x : Pad) : (s.setPad i x).pad i = x :=
  Quad.get_set_same s.pads i x

theorem State.setPad_pad_ne (s : State) (i j : PadIdx) (x : Pad) (h : j ≠ i) : (s.setPad i x).pad j = s.pad j :=
  Quad.get_set_ne s.pads i j x h

@[simp] theorem State.mapPads_pad (f : Pad → Pad) (s : State) (i : PadIdx) : (s.mapPads f).pad i = f (s.pad i) :=
  Quad.get_map f s.pads i

@[simp] theorem State.setVoice_voice_same (s : State) (v : VoiceId) (x : Voice) : (s.setVoice v x).voice v = x :=
  Quad.get_set_same s.voices v.idx x

theorem State.setVoice_voice_ne (s : State) (v u : VoiceId) (x : Voice) (h : u ≠ v) :
    (s.setVoice v x).voice u = s.voice u :=
  Quad.get_set_ne s.voices v.idx u.idx x fun e => h (VoiceId.idx_injective e)

@[simp] theorem trigger_voice_same (v : VoiceId) (s : State) : (trigger v s).voice v = triggeredVoice s.cfg v :=
  Quad.get_set_same s.voices v.idx _

theorem trigger_voice_ne (v u : VoiceId) (s : State) (h : u ≠ v) : (trigger v s).voice u = s.voice u :=
  Quad.get_set_ne s.voices v.idx u.idx _ fun e => h (VoiceId.idx_injective e)

@[simp] theorem recover_pad (s : State) (i : PadIdx) :
    (recover s).pad i = { s.pad i with baseline := (s.pad i).backup } :=
  Quad.get_map _ s.pads i

@[simp] theorem clearFresh_pad (s : State) (i : PadIdx) : (clearFresh s).pad i = { s.pad i with measValid := false } :=
  Quad.get_map _ s.pads i

@[simp] theorem State.respond_pad (s : State) (r : Response) (i : PadIdx) : (s.respond r).pad i = s.pad i := rfl
@[simp] theorem State.setVoice_pad (s : State) (v : VoiceId) (x : Voice) (i : PadIdx) : (s.setVoice v x).pad i = s.pad i := rfl
@[simp] theorem advanceNoise_pad (s : State) (i : PadIdx) : (advanceNoise s).pad i = s.pad i := rfl
@[simp] theorem toggleIf_pad (b : Bool) (s : State) (i : PadIdx) : (toggleIf b s).pad i = s.pad i := rfl
@[simp] theorem trigger_pad (v : VoiceId) (s : State) (i : PadIdx) : (trigger v s).pad i = s.pad i := rfl
@[simp] theorem flagIllegal_pad (s : State) (i : PadIdx) : (flagIllegal s).pad i = s.pad i := rfl
@[simp] theorem flagStale_pad (s : State) (i : PadIdx) : (flagStale s).pad i = s.pad i := rfl
@[simp] theorem takeInput_pad (rest : List PortInput) (s : State) (i : PadIdx) : (takeInput rest s).pad i = s.pad i := rfl

@[simp] theorem State.respond_voice (s : State) (r : Response) (v : VoiceId) : (s.respond r).voice v = s.voice v := rfl
@[simp] theorem State.setPad_voice (s : State) (i : PadIdx) (x : Pad) (v : VoiceId) : (s.setPad i x).voice v = s.voice v := rfl
@[simp] theorem State.mapPads_voice (f : Pad → Pad) (s : State) (v : VoiceId) : (s.mapPads f).voice v = s.voice v := rfl
@[simp] theorem advanceNoise_voice (s : State) (v : VoiceId) : (advanceNoise s).voice v = s.voice v := rfl
@[simp] theorem toggleIf_voice (b : Bool) (s : State) (v : VoiceId) : (toggleIf b s).voice v = s.voice v := rfl
@[simp] theorem recover_voice (s : State) (v : VoiceId) : (recover s).voice v = s.voice v := rfl
@[simp] theorem flagIllegal_voice (s : State) (v : VoiceId) : (flagIllegal s).voice v = s.voice v := rfl
@[simp] theorem flagStale_voice (s : State) (v : VoiceId) : (flagStale s).voice v = s.voice v := rfl
@[simp] theorem clearFresh_voice (s : State) (v : VoiceId) : (clearFresh s).voice v = s.voice v := rfl
@[simp] theorem takeInput_voice (rest : List PortInput) (s : State) (v : VoiceId) : (takeInput rest s).voice v = s.voice v := rfl

/-! The three events of 60_exceptions.md R191. -/

@[simp] theorem raise_stuckKey (s : State) : raise .stuckKey s = recover s := rfl

@[simp] theorem raise_illegalCmd (s : State) : raise .illegalCmd s = flagIllegal s := rfl

@[simp] theorem raise_staleMeas (s : State) : raise .staleMeas s = flagStale s := rfl

end Sys2Proof.Machine
end

