-- ==== Sys2Proof/Laws/Cycle.lean ====
section
/-! SUPPORT. What each part of a `CYCLE` can change (spec/41_cycle_tracker_threshold_key.md), said once. -/

namespace Sys2Proof.Machine

/-- The adapter moves the threshold only. -/
theorem adaptThreshold_eq (thr0 : U16) (key : Option PadIdx) (s : State) :
    adaptThreshold thr0 key s = { s with threshold := (adaptThreshold thr0 key s).threshold } := by
  unfold adaptThreshold
  split
  · simp only [adaptPressed]
    split <;> rfl
  · simp only [adaptIdle]
    split <;> rfl

@[simp] theorem adaptThreshold_cfg (thr0 : U16) (key : Option PadIdx) (s : State) : (adaptThreshold thr0 key s).cfg = s.cfg := by
  rw [adaptThreshold_eq]
@[simp] theorem adaptThreshold_inputs (thr0 : U16) (key : Option PadIdx) (s : State) : (adaptThreshold thr0 key s).inputs = s.inputs := by
  rw [adaptThreshold_eq]
@[simp] theorem adaptThreshold_resp (thr0 : U16) (key : Option PadIdx) (s : State) : (adaptThreshold thr0 key s).resp = s.resp := by
  rw [adaptThreshold_eq]
@[simp] theorem adaptThreshold_pads (thr0 : U16) (key : Option PadIdx) (s : State) : (adaptThreshold thr0 key s).pads = s.pads := by
  rw [adaptThreshold_eq]
@[simp] theorem adaptThreshold_mode (thr0 : U16) (key : Option PadIdx) (s : State) : (adaptThreshold thr0 key s).mode = s.mode := by
  rw [adaptThreshold_eq]
@[simp] theorem adaptThreshold_calRounds (thr0 : U16) (key : Option PadIdx) (s : State) : (adaptThreshold thr0 key s).calRounds = s.calRounds := by
  rw [adaptThreshold_eq]
@[simp] theorem adaptThreshold_activeKey (thr0 : U16) (key : Option PadIdx) (s : State) : (adaptThreshold thr0 key s).activeKey = s.activeKey := by
  rw [adaptThreshold_eq]
@[simp] theorem adaptThreshold_activeKeyPrev (thr0 : U16) (key : Option PadIdx) (s : State) : (adaptThreshold thr0 key s).activeKeyPrev = s.activeKeyPrev := by
  rw [adaptThreshold_eq]
@[simp] theorem adaptThreshold_timeoutCounter (thr0 : U16) (key : Option PadIdx) (s : State) : (adaptThreshold thr0 key s).timeoutCounter = s.timeoutCounter := by
  rw [adaptThreshold_eq]
@[simp] theorem adaptThreshold_quietCounter (thr0 : U16) (key : Option PadIdx) (s : State) : (adaptThreshold thr0 key s).quietCounter = s.quietCounter := by
  rw [adaptThreshold_eq]
@[simp] theorem adaptThreshold_sel (thr0 : U16) (key : Option PadIdx) (s : State) : (adaptThreshold thr0 key s).sel = s.sel := by
  rw [adaptThreshold_eq]
@[simp] theorem adaptThreshold_voices (thr0 : U16) (key : Option PadIdx) (s : State) : (adaptThreshold thr0 key s).voices = s.voices := by
  rw [adaptThreshold_eq]
@[simp] theorem adaptThreshold_lfsr1 (thr0 : U16) (key : Option PadIdx) (s : State) : (adaptThreshold thr0 key s).lfsr1 = s.lfsr1 := by
  rw [adaptThreshold_eq]
@[simp] theorem adaptThreshold_lfsr2 (thr0 : U16) (key : Option PadIdx) (s : State) : (adaptThreshold thr0 key s).lfsr2 = s.lfsr2 := by
  rw [adaptThreshold_eq]
@[simp] theorem adaptThreshold_snd (thr0 : U16) (key : Option PadIdx) (s : State) : (adaptThreshold thr0 key s).snd = s.snd := by
  rw [adaptThreshold_eq]
@[simp] theorem adaptThreshold_pulseCounter (thr0 : U16) (key : Option PadIdx) (s : State) : (adaptThreshold thr0 key s).pulseCounter = s.pulseCounter := by
  rw [adaptThreshold_eq]
@[simp] theorem adaptThreshold_errIllegal (thr0 : U16) (key : Option PadIdx) (s : State) : (adaptThreshold thr0 key s).errIllegal = s.errIllegal := by
  rw [adaptThreshold_eq]
@[simp] theorem adaptThreshold_errStale (thr0 : U16) (key : Option PadIdx) (s : State) : (adaptThreshold thr0 key s).errStale = s.errStale := by
  rw [adaptThreshold_eq]

/-- The drift moves the pads only. -/
theorem driftUp_eq (key : Option PadIdx) (s : State) :
    driftUp key s = { s with pads := (driftUp key s).pads } := by
  unfold driftUp
  split <;> rfl

@[simp] theorem driftUp_cfg (key : Option PadIdx) (s : State) : (driftUp key s).cfg = s.cfg := by
  rw [driftUp_eq]
@[simp] theorem driftUp_inputs (key : Option PadIdx) (s : State) : (driftUp key s).inputs = s.inputs := by
  rw [driftUp_eq]
@[simp] theorem driftUp_resp (key : Option PadIdx) (s : State) : (driftUp key s).resp = s.resp := by
  rw [driftUp_eq]
@[simp] theorem driftUp_mode (key : Option PadIdx) (s : State) : (driftUp key s).mode = s.mode := by
  rw [driftUp_eq]
@[simp] theorem driftUp_calRounds (key : Option PadIdx) (s : State) : (driftUp key s).calRounds = s.calRounds := by
  rw [driftUp_eq]
@[simp] theorem driftUp_threshold (key : Option PadIdx) (s : State) : (driftUp key s).threshold = s.threshold := by
  rw [driftUp_eq]
@[simp] theorem driftUp_activeKey (key : Option PadIdx) (s : State) : (driftUp key s).activeKey = s.activeKey := by
  rw [driftUp_eq]
@[simp] theorem driftUp_activeKeyPrev (key : Option PadIdx) (s : State) : (driftUp key s).activeKeyPrev = s.activeKeyPrev := by
  rw [driftUp_eq]
@[simp] theorem driftUp_timeoutCounter (key : Option PadIdx) (s : State) : (driftUp key s).timeoutCounter = s.timeoutCounter := by
  rw [driftUp_eq]
@[simp] theorem driftUp_quietCounter (key : Option PadIdx) (s : State) : (driftUp key s).quietCounter = s.quietCounter := by
  rw [driftUp_eq]
@[simp] theorem driftUp_sel (key : Option PadIdx) (s : State) : (driftUp key s).sel = s.sel := by
  rw [driftUp_eq]
@[simp] theorem driftUp_voices (key : Option PadIdx) (s : State) : (driftUp key s).voices = s.voices := by
  rw [driftUp_eq]
@[simp] theorem driftUp_lfsr1 (key : Option PadIdx) (s : State) : (driftUp key s).lfsr1 = s.lfsr1 := by
  rw [driftUp_eq]
@[simp] theorem driftUp_lfsr2 (key : Option PadIdx) (s : State) : (driftUp key s).lfsr2 = s.lfsr2 := by
  rw [driftUp_eq]
@[simp] theorem driftUp_snd (key : Option PadIdx) (s : State) : (driftUp key s).snd = s.snd := by
  rw [driftUp_eq]
@[simp] theorem driftUp_pulseCounter (key : Option PadIdx) (s : State) : (driftUp key s).pulseCounter = s.pulseCounter := by
  rw [driftUp_eq]
@[simp] theorem driftUp_errIllegal (key : Option PadIdx) (s : State) : (driftUp key s).errIllegal = s.errIllegal := by
  rw [driftUp_eq]
@[simp] theorem driftUp_errStale (key : Option PadIdx) (s : State) : (driftUp key s).errStale = s.errStale := by
  rw [driftUp_eq]

/-- The key machine moves the key, its counters and, through recovery, baselines, threshold and response only. -/
theorem keyMachine_eq (key : Option PadIdx) (s : State) :
    keyMachine key s = { s with resp := (keyMachine key s).resp, pads := (keyMachine key s).pads, threshold := (keyMachine key s).threshold, activeKey := (keyMachine key s).activeKey, timeoutCounter := (keyMachine key s).timeoutCounter, quietCounter := (keyMachine key s).quietCounter } := by
  unfold keyMachine
  split
  · rfl
  · split
    · rfl
    · split
      · simp only [holdKey]
        split <;> rfl
      · rfl

@[simp] theorem keyMachine_cfg (key : Option PadIdx) (s : State) : (keyMachine key s).cfg = s.cfg := by
  rw [keyMachine_eq]
@[simp] theorem keyMachine_inputs (key : Option PadIdx) (s : State) : (keyMachine key s).inputs = s.inputs := by
  rw [keyMachine_eq]
@[simp] theorem keyMachine_mode (key : Option PadIdx) (s : State) : (keyMachine key s).mode = s.mode := by
  rw [keyMachine_eq]
@[simp] theorem keyMachine_calRounds (key : Option PadIdx) (s : State) : (keyMachine key s).calRounds = s.calRounds := by
  rw [keyMachine_eq]
@[simp] theorem keyMachine_activeKeyPrev (key : Option PadIdx) (s : State) : (keyMachine key s).activeKeyPrev = s.activeKeyPrev := by
  rw [keyMachine_eq]
@[simp] theorem keyMachine_sel (key : Option PadIdx) (s : State) : (keyMachine key s).sel = s.sel := by
  rw [keyMachine_eq]
@[simp] theorem keyMachine_voices (key : Option PadIdx) (s : State) : (keyMachine key s).voices = s.voices := by
  rw [keyMachine_eq]
@[simp] theorem keyMachine_lfsr1 (key : Option PadIdx) (s : State) : (keyMachine key s).lfsr1 = s.lfsr1 := by
  rw [keyMachine_eq]
@[simp] theorem keyMachine_lfsr2 (key : Option PadIdx) (s : State) : (keyMachine key s).lfsr2 = s.lfsr2 := by
  rw [keyMachine_eq]
@[simp] theorem keyMachine_snd (key : Option PadIdx) (s : State) : (keyMachine key s).snd = s.snd := by
  rw [keyMachine_eq]
@[simp] theorem keyMachine_pulseCounter (key : Option PadIdx) (s : State) : (keyMachine key s).pulseCounter = s.pulseCounter := by
  rw [keyMachine_eq]
@[simp] theorem keyMachine_errIllegal (key : Option PadIdx) (s : State) : (keyMachine key s).errIllegal = s.errIllegal := by
  rw [keyMachine_eq]
@[simp] theorem keyMachine_errStale (key : Option PadIdx) (s : State) : (keyMachine key s).errStale = s.errStale := by
  rw [keyMachine_eq]

/-- The press-edge trigger moves the selector, the voices and the response only. -/
theorem triggerOnEdge_eq (s : State) :
    triggerOnEdge s = { s with resp := (triggerOnEdge s).resp, sel := (triggerOnEdge s).sel, voices := (triggerOnEdge s).voices } := by
  unfold triggerOnEdge
  split <;> rfl

@[simp] theorem triggerOnEdge_cfg (s : State) : (triggerOnEdge s).cfg = s.cfg := by
  rw [triggerOnEdge_eq]
@[simp] theorem triggerOnEdge_inputs (s : State) : (triggerOnEdge s).inputs = s.inputs := by
  rw [triggerOnEdge_eq]
@[simp] theorem triggerOnEdge_pads (s : State) : (triggerOnEdge s).pads = s.pads := by
  rw [triggerOnEdge_eq]
@[simp] theorem triggerOnEdge_mode (s : State) : (triggerOnEdge s).mode = s.mode := by
  rw [triggerOnEdge_eq]
@[simp] theorem triggerOnEdge_calRounds (s : State) : (triggerOnEdge s).calRounds = s.calRounds := by
  rw [triggerOnEdge_eq]
@[simp] theorem triggerOnEdge_threshold (s : State) : (triggerOnEdge s).threshold = s.threshold := by
  rw [triggerOnEdge_eq]
@[simp] theorem triggerOnEdge_activeKey (s : State) : (triggerOnEdge s).activeKey = s.activeKey := by
  rw [triggerOnEdge_eq]
@[simp] theorem triggerOnEdge_activeKeyPrev (s : State) : (triggerOnEdge s).activeKeyPrev = s.activeKeyPrev := by
  rw [triggerOnEdge_eq]
@[simp] theorem triggerOnEdge_timeoutCounter (s : State) : (triggerOnEdge s).timeoutCounter = s.timeoutCounter := by
  rw [triggerOnEdge_eq]
@[simp] theorem triggerOnEdge_quietCounter (s : State) : (triggerOnEdge s).quietCounter = s.quietCounter := by
  rw [triggerOnEdge_eq]
@[simp] theorem triggerOnEdge_lfsr1 (s : State) : (triggerOnEdge s).lfsr1 = s.lfsr1 := by
  rw [triggerOnEdge_eq]
@[simp] theorem triggerOnEdge_lfsr2 (s : State) : (triggerOnEdge s).lfsr2 = s.lfsr2 := by
  rw [triggerOnEdge_eq]
@[simp] theorem triggerOnEdge_snd (s : State) : (triggerOnEdge s).snd = s.snd := by
  rw [triggerOnEdge_eq]
@[simp] theorem triggerOnEdge_pulseCounter (s : State) : (triggerOnEdge s).pulseCounter = s.pulseCounter := by
  rw [triggerOnEdge_eq]
@[simp] theorem triggerOnEdge_errIllegal (s : State) : (triggerOnEdge s).errIllegal = s.errIllegal := by
  rw [triggerOnEdge_eq]
@[simp] theorem triggerOnEdge_errStale (s : State) : (triggerOnEdge s).errStale = s.errStale := by
  rw [triggerOnEdge_eq]

/-- Steps 1 to 3 of R119 for one pad. -/
def judgePad (thr0 : U16) (p : Pad) : Pad :=
  let tracked := Pad.track { p with pressedPrev := p.pressed }
  { tracked with pressed := exceeds thr0 tracked }

theorem judgePads_eq (s : State) :
    judgePads s = { s with pads := s.pads.map (judgePad s.threshold), activeKeyPrev := s.activeKey } := rfl

@[simp] theorem judgePads_cfg (s : State) : (judgePads s).cfg = s.cfg := rfl

@[simp] theorem judgePads_pad (s : State) (i : PadIdx) : (judgePads s).pad i = judgePad s.threshold (s.pad i) := by
  rw [judgePads_eq]
  exact Quad.get_map _ s.pads i

@[simp] theorem judgePad_measured (thr0 : U16) (p : Pad) : (judgePad thr0 p).measured = p.measured := by
  simp only [judgePad, Pad.track]; split <;> rfl

@[simp] theorem judgePad_measValid (thr0 : U16) (p : Pad) : (judgePad thr0 p).measValid = p.measValid := by
  simp only [judgePad, Pad.track]; split <;> rfl

@[simp] theorem judgePad_backup (thr0 : U16) (p : Pad) : (judgePad thr0 p).backup = p.backup := by
  simp only [judgePad, Pad.track]; split <;> rfl

@[simp] theorem judgePad_pressedPrev (thr0 : U16) (p : Pad) : (judgePad thr0 p).pressedPrev = p.pressed := by
  simp only [judgePad, Pad.track]; split <;> rfl

theorem avg16_toNat (x y : U16) : (avg16 x y).toNat = (x.toNat + y.toNat) / 2 := by
  have := x.isLt
  have := y.isLt
  simp only [avg16, BitVec.toNat_ofNat]
  omega

theorem inc16_toNat (step x : U16) : (inc16 step x).toNat = (x.toNat + step.toNat) % 65536 := by
  simp [inc16, BitVec.toNat_add]

theorem judgePad_delta (thr0 : U16) (p : Pad) :
    (judgePad thr0 p).delta.toInt = max 0 ((p.measured.toNat : Int) - p.baseline.toNat) := by
  have := p.measured.isLt
  have := p.baseline.isLt
  simp only [judgePad, Pad.track, Pad.gap]
  by_cases h : (p.measured.toNat : Int) - p.baseline.toNat < 0
  · simp only [h, if_true, BitVec.ofNat_eq_ofNat, BitVec.toInt_zero]
    omega
  · simp only [h, if_false]
    rw [BitVec.toInt_ofInt, Int.bmod_eq_of_le] <;> omega

theorem judgePad_delta_range (thr0 : U16) (p : Pad) :
    0 ≤ (judgePad thr0 p).delta.toInt ∧ (judgePad thr0 p).delta.toInt ≤ 65535 := by
  rw [judgePad_delta]
  have := p.measured.isLt
  omega

theorem judgePad_pressed (thr0 : U16) (p : Pad) :
    (judgePad thr0 p).pressed = true ↔ (thr0.toNat : Int) < (judgePad thr0 p).delta.toInt := by
  simp only [judgePad, exceeds, decide_eq_true_eq]

theorem judgePad_baseline (thr0 : U16) (p : Pad) :
    (judgePad thr0 p).baseline.toNat
      = if p.measured.toNat < p.baseline.toNat then (p.baseline.toNat + p.measured.toNat) / 2 else p.baseline.toNat := by
  simp only [judgePad, Pad.track, Pad.gap]
  by_cases h : (p.measured.toNat : Int) - p.baseline.toNat < 0
  · simp only [h, if_true, avg16_toNat]
    rw [if_pos (by omega)]
  · simp only [h, if_false]
    rw [if_neg (by omega)]

/-- The ascending scan that keeps the last match finds the highest index (R123). -/
theorem activeKeyOf_last (pads : Quad Pad) : LastSet (fun i => (pads.get i).pressed) (activeKeyOf pads) := by
  cases h0 : (pads.get 0).pressed <;> cases h1 : (pads.get 1).pressed <;> cases h2 : (pads.get 2).pressed
    <;> cases h3 : (pads.get 3).pressed
    <;> simp only [activeKeyOf, padsAscending, List.foldl, h0, h1, h2, h3, if_true, LastSet]
    <;> first
      | exact forall_idx h0 h1 h2 h3
      | (refine ⟨by first | assumption | trivial, forall_idx ?_ ?_ ?_ ?_⟩ <;> intro hlt <;> first | assumption | exact absurd hlt (by decide))

/-- `LastSet` has one solution. -/
theorem LastSet.unique {flag : PadIdx → Bool} {x y : Option PadIdx} (hx : LastSet flag x) (hy : LastSet flag y) :
    x = y := by
  match x, y with
  | none, none => rfl
  | none, some q => exact absurd hy.1 (by simp [hx q])
  | some p, none => exact absurd hx.1 (by simp [hy p])
  | some p, some q =>
    rcases lt_trichotomy p q with h | h | h
    · exact absurd hy.1 (by simp [hx.2 q h])
    · rw [h]
    · exact absurd hx.1 (by simp [hy.2 p h])

/-- The descending scan that stops at the first match finds the highest index (R135). -/
theorem findDescending_last (flag : PadIdx → Bool) : LastSet flag (padsDescending.find? flag) := by
  cases h0 : flag 0 <;> cases h1 : flag 1 <;> cases h2 : flag 2 <;> cases h3 : flag 3
    <;> simp only [padsDescending, List.find?, h0, h1, h2, h3, LastSet]
    <;> first
      | exact forall_idx h0 h1 h2 h3
      | (refine ⟨by first | assumption | trivial, forall_idx ?_ ?_ ?_ ?_⟩ <;> intro hlt <;> first | assumption | exact absurd hlt (by decide))

/-- The key machine's five cases: R133, R130, R131, and R132 with and without recovery. -/
theorem keyMachine_cases (key : Option PadIdx) (s : State) :
    (key = none ∧ keyMachine key s = releaseKey s)
      ∨ (∃ p, key = some p ∧ s.activeKeyPrev = none ∧ keyMachine key s = pressFromIdle p s)
      ∨ (∃ p q, key = some p ∧ s.activeKeyPrev = some q ∧ q ≠ p ∧ keyMachine key s = changeKey p s)
      ∨ (∃ p, key = some p ∧ s.activeKeyPrev = some p ∧ s.timeoutCounter = 1
          ∧ keyMachine key s = { recover s with activeKey := some p })
      ∨ (∃ p, key = some p ∧ s.activeKeyPrev = some p ∧ s.timeoutCounter ≠ 1
          ∧ keyMachine key s = { s with timeoutCounter := s.timeoutCounter - 1, activeKey := some p }) := by
  cases key with
  | none => exact .inl ⟨rfl, rfl⟩
  | some p =>
    rcases Option.eq_none_or_eq_some s.activeKeyPrev with hprev | ⟨q, hprev⟩
    · exact .inr (.inl ⟨p, rfl, hprev, by simp only [keyMachine, hprev]⟩)
    · by_cases hq : q = p
      · subst hq
        have key : s.timeoutCounter - 1 = 0 ↔ s.timeoutCounter = 1 := by
          constructor <;> intro h <;> bv_omega
        have held : keyMachine (some q) s = holdKey q s := by simp only [keyMachine, hprev, if_true]
        by_cases h : s.timeoutCounter = 1
        · refine .inr (.inr (.inr (.inl ⟨q, rfl, hprev, h, ?_⟩)))
          rw [held]
          simp only [holdKey, countTimeout, dec32, key.mpr h, if_true, raise_stuckKey]
          rfl
        · refine .inr (.inr (.inr (.inr ⟨q, rfl, hprev, h, ?_⟩)))
          rw [held]
          have running : ¬ s.timeoutCounter - 1 = 0 := fun e => h (key.mp e)
          simp only [holdKey, countTimeout, dec32, running, if_false]
          rfl
      · exact .inr (.inr (.inl ⟨p, q, rfl, hprev, hq, by simp only [keyMachine, hprev, hq, if_false]⟩))

@[simp] theorem keyMachine_activeKey (key : Option PadIdx) (s : State) : (keyMachine key s).activeKey = key := by
  rcases keyMachine_cases key s with ⟨h, e⟩ | ⟨p, h, -, e⟩ | ⟨p, q, h, -, -, e⟩ | ⟨p, h, -, -, e⟩ | ⟨p, h, -, -, e⟩
    <;> rw [e, h] <;> rfl

/-- The press-edge trigger's two cases (R135). -/
theorem triggerOnEdge_cases (s : State) :
    (∃ i, LastSet (fun i => (s.pad i).rose) (some i) ∧ triggerOnEdge s = trigger (s.cfg.voiceOfPad.get i) s)
      ∨ (LastSet (fun i => (s.pad i).rose) none ∧ triggerOnEdge s = s) := by
  have hlast := findDescending_last fun i => (s.pad i).rose
  unfold triggerOnEdge
  cases hfind : padsDescending.find? (fun i => (s.pad i).rose) with
  | none => exact .inr ⟨hfind ▸ hlast, rfl⟩
  | some i => exact .inl ⟨i, hfind ▸ hlast, rfl⟩

/-- The threshold adapter, pressed branch (R124), with the delta's range. -/
theorem adaptThreshold_pressed (thr0 : U16) (a : PadIdx) (s : State)
    (hk : s.cfg.constants = Constants.source)
    (hd : 0 ≤ (s.pad a).delta.toInt ∧ (s.pad a).delta.toInt ≤ 65535) (hthr : s.threshold = thr0) :
    ((adaptThreshold thr0 (some a) s).threshold.toNat : Int)
      = if (thr0.toNat : Int) < (s.pad a).delta.toInt / 4 then ((s.pad a).delta.toInt / 4 + thr0.toNat) / 2
        else thr0.toNat := by
  have := thr0.isLt
  have div : s.cfg.constants.pressDiv = 4 := by rw [hk]; rfl
  simp only [adaptThreshold, adaptPressed, div]
  by_cases h : (thr0.toNat : Int) < (s.pad a).delta.toInt / 4
  · simp only [h, if_true, BitVec.toNat_ofInt]
    omega
  · simp only [h, if_false, hthr]

/-- The threshold adapter, idle branch (R125): the first pad above 30 decides. -/
theorem adaptThreshold_idle (thr0 : U16) (s : State) (hk : s.cfg.constants = Constants.source)
    (hd : ∀ i, 0 ≤ (s.pad i).delta.toInt ∧ (s.pad i).delta.toInt ≤ 65535) :
    (∃ i, 30 < (s.pad i).delta.toInt ∧ (∀ j, j < i → (s.pad j).delta.toInt ≤ 30)
        ∧ ((adaptThreshold thr0 none s).threshold.toNat : Int) = ((s.pad i).delta.toInt / 2 + thr0.toNat) / 2)
      ∨ ((∀ i, (s.pad i).delta.toInt ≤ 30) ∧ adaptThreshold thr0 none s = s) := by
  have := thr0.isLt
  have least : s.cfg.constants.minLevel = 30 := by rw [hk]; rfl
  have div : s.cfg.constants.idleDiv = 2 := by rw [hk]; rfl
  have value : ∀ i, padsAscending.find? (fun i => decide (30 < (s.pad i).delta.toInt)) = some i →
      ((adaptThreshold thr0 none s).threshold.toNat : Int) = ((s.pad i).delta.toInt / 2 + thr0.toNat) / 2 := by
    intro i hi
    have := hd i
    simp only [adaptThreshold, adaptIdle, least, div, hi, BitVec.toNat_ofInt]
    omega
  simp only [padsAscending, List.find?] at value
  by_cases h0 : 30 < (s.pad 0).delta.toInt
  · refine .inl ⟨0, h0, fun j hj => absurd hj (by simp), value 0 (by simp [h0])⟩
  by_cases h1 : 30 < (s.pad 1).delta.toInt
  · refine .inl ⟨1, h1, forall_idx ?_ ?_ ?_ ?_, value 1 (by simp [h0, h1])⟩ <;> intro hj <;>
      first | exact absurd hj (by decide) | omega
  by_cases h2 : 30 < (s.pad 2).delta.toInt
  · refine .inl ⟨2, h2, forall_idx ?_ ?_ ?_ ?_, value 2 (by simp [h0, h1, h2])⟩ <;> intro hj <;>
      first | exact absurd hj (by decide) | omega
  by_cases h3 : 30 < (s.pad 3).delta.toInt
  · refine .inl ⟨3, h3, forall_idx ?_ ?_ ?_ ?_, value 3 (by simp [h0, h1, h2, h3])⟩ <;> intro hj <;>
      first | exact absurd hj (by decide) | omega
  · refine .inr ⟨forall_idx (by omega) (by omega) (by omega) (by omega), ?_⟩
    simp [adaptThreshold, adaptIdle, padsAscending, List.find?, least, h0, h1, h2, h3]

/-- The adapter neither reads nor writes the response. -/
theorem adaptThreshold_respond (thr0 : U16) (key : Option PadIdx) (s : State) (r : Response) :
    adaptThreshold thr0 key (s.respond r) = (adaptThreshold thr0 key s).respond r := by
  cases key with
  | none =>
    simp only [adaptThreshold, adaptIdle]
    generalize scan : padsAscending.find? (fun i => decide (s.cfg.constants.minLevel < (s.pad i).delta.toInt)) = found
    have same : padsAscending.find? (fun i =>
        decide ((s.respond r).cfg.constants.minLevel < ((s.respond r).pad i).delta.toInt)) = found := scan
    rw [same]
    cases found <;> rfl
  | some a =>
    unfold adaptThreshold adaptPressed
    by_cases h : (thr0.toNat : Int) < (s.pad a).delta.toInt / s.cfg.constants.pressDiv
    · have same : (thr0.toNat : Int) < ((s.respond r).pad a).delta.toInt / (s.respond r).cfg.constants.pressDiv := h
      simp only [if_pos h, if_pos same]
      rfl
    · have same : ¬ (thr0.toNat : Int) < ((s.respond r).pad a).delta.toInt / (s.respond r).cfg.constants.pressDiv := h
      simp only [if_neg h, if_neg same]

/-- The whole of a `CYCLE` with four fresh measurements (R106). -/
theorem exec_cycle_fresh (s : State) (h : Fresh s) :
    exec .cycle s = .next (clearFresh (cycleByMode (s.respond Response.quiet))) := by
  have : allFresh (s.respond Response.quiet) = true := (Quad.all_eq_true _ _).mpr h
  simp only [exec, execCycle, this, if_true]

/-- The whole of a stale `CYCLE` (R106). -/
theorem exec_cycle_stale (s : State) (h : ¬ Fresh s) :
    exec .cycle s = .next (flagStale (s.respond Response.quiet)) := by
  have : ¬ allFresh (s.respond Response.quiet) = true := fun e => h ((Quad.all_eq_true _ _).mp e)
  simp only [exec, execCycle, if_neg this, raise_staleMeas]

/-- The whole of a RUN `CYCLE` with four fresh measurements (R119). -/
theorem exec_cycle_run (s : State) (hmode : s.mode = .run) (h : Fresh s) :
    exec .cycle s = .next (clearFresh (cycleRun (s.respond Response.quiet))) := by
  rw [exec_cycle_fresh s h]
  simp only [cycleByMode, State.respond_mode, hmode]

end Sys2Proof.Machine
end

