-- ==== Sys2Proof/Laws/Encoding.lean ====
section
/-! SUPPORT. The one layout of spec/30_encoding.md R80: a word is its five fields, and a mask acts on each field alone. -/

namespace Sys2Proof

/-- The five fields in their places (R80). -/
def joinFields (f : CmdFields) : CmdWord := f.op ++ f.p ++ f.rsv ++ f.a ++ f.b

theorem assemble_eq (op : BitVec 4) (p : BitVec 2) (a b : U16) :
    assemble op p a b = joinFields { op := op, p := p, rsv := 0, a := a, b := b } := rfl

/-- A word is the join of its fields. -/
theorem joinFields_fieldsOf (w : CmdWord) : joinFields (fieldsOf w) = w := by
  simp only [fieldsOf, joinFields]
  ext i hi
  simp
  grind

/-- The fields of a joined word are the fields it was joined from. -/
@[simp] theorem fieldsOf_joinFields (f : CmdFields) : fieldsOf (joinFields f) = f := by
  obtain ⟨op, p, rsv, a, b⟩ := f
  simp only [fieldsOf, CmdFields.mk.injEq, joinFields]
  refine ⟨?_, ?_, ?_, ?_, ?_⟩ <;> ext i hi <;> simp [BitVec.getElem_extractLsb'] <;> grind

/-- A mask acts on each field alone. -/
theorem and_joinFields (f g : CmdFields) :
    joinFields f &&& joinFields g
      = joinFields { op := f.op &&& g.op, p := f.p &&& g.p, rsv := f.rsv &&& g.rsv, a := f.a &&& g.a, b := f.b &&& g.b } := by
  simp only [joinFields]
  ext i hi
  simp only [BitVec.getElem_and, BitVec.getElem_append]
  grind

theorem joinFields_inj {f g : CmdFields} : joinFields f = joinFields g ↔ f = g :=
  ⟨fun h => by rw [← fieldsOf_joinFields f, h, fieldsOf_joinFields], fun h => by rw [h]⟩

end Sys2Proof
end

