-- ==== Sys2Proof/Laws/PerInstr.lean ====
section
/-! SUPPORT. Laws made per instruction. `EncodesItsRow`: the word of a command carries its row's bits under its row's mask
(spec/30_encoding.md R82), and its fields are none of the reserved ones (R87). -/

namespace Sys2Proof.Laws.EncodesItsRow

/-- The mask of a command's row (R82). -/
def rowMask : Instr → CmdWord
  | .nop => 0xFFFFFFFFFF
  | .meas _ _ _ => 0xF300000000
  | .cycle => 0xFFFFFFFFFF
  | .tick => 0xFFFFFFFFFF
  | .trig _ => 0xF3FFFFFFFF
  | .noise => 0xFFFFFFFFFF

/-- The match value of a command's row (R82). -/
def rowMatch : Instr → CmdWord
  | .nop => 0x0000000000
  | .meas _ _ _ => 0x1000000000
  | .cycle => 0x2000000000
  | .tick => 0x3000000000
  | .trig _ => 0x4000000000
  | .noise => 0x5000000000

/-- The command's word selects the command's row and is not reserved. -/
def Statement (i : Instr) : Prop :=
  encode i &&& rowMask i = rowMatch i ∧ (fieldsOf (encode i)).wellFormed = true

theorem nop : Statement .nop := ⟨by decide, by decide⟩

theorem meas (p : PadIdx) (a b : U16) : Statement (.meas p a b) := by
  refine ⟨?_, ?_⟩
  · have mask : (0xF300000000 : CmdWord) = joinFields { op := 15, p := 0, rsv := 3, a := 0, b := 0 } := by decide
    have row : (0x1000000000 : CmdWord) = joinFields { op := 1, p := 0, rsv := 0, a := 0, b := 0 } := by decide
    simp only [rowMask, rowMatch]
    rw [mask, row, encode, assemble_eq, and_joinFields, joinFields_inj]
    simp
  · rw [encode, assemble_eq, fieldsOf_joinFields]
    rfl

theorem cycle : Statement .cycle := ⟨by decide, by decide⟩

theorem tick : Statement .tick := ⟨by decide, by decide⟩

theorem trig (v : VoiceId) : Statement (.trig v) := by cases v <;> exact ⟨by decide, by decide⟩

theorem noise : Statement .noise := ⟨by decide, by decide⟩

end Sys2Proof.Laws.EncodesItsRow
end

