-- ==== Sys2Proof/Laws/RunCycle.lean ====
section
/-! SUPPORT. Everything a RUN cycle with four fresh measurements does (spec/41_cycle_tracker_threshold_key.md R119 to R135), said
once, field by field. -/

namespace Sys2Proof.Machine

/-- Everything a RUN cycle with four fresh measurements does (R119 to R135), field by field. -/
structure RunPost (s t : State) : Prop where
  key : t.activeKey = activeKeyOf (s.pads.map (judgePad s.threshold))
  last : LastSet (fun i => (t.pad i).pressed) t.activeKey
  prev : t.activeKeyPrev = s.activeKey
  pad : ∀ i, (t.pad i).pressedPrev = (s.pad i).pressed
    ∧ (t.pad i).delta = (judgePad s.threshold (s.pad i)).delta
    ∧ (t.pad i).pressed = (judgePad s.threshold (s.pad i)).pressed
    ∧ (t.pad i).measured = (s.pad i).measured ∧ (t.pad i).backup = (s.pad i).backup ∧ (t.pad i).measValid = false
  frame : t.mode = s.mode ∧ t.calRounds = s.calRounds ∧ t.snd = s.snd ∧ SameNoise s t
    ∧ t.pulseCounter = s.pulseCounter ∧ SameErrors s t ∧ SameEnv s t ∧ t.resp.wake = false ∧ t.resp.nbit = false
  quiet : t.quietCounter =
    if t.activeKey = none then (if s.quietCounter = 0 then 0 else s.quietCounter - 1)
    else if s.activeKey = none then s.cfg.quietReload
    else s.quietCounter
  recov : t.resp.evRecover = true ↔ (s.activeKey ≠ none ∧ t.activeKey = s.activeKey ∧ s.timeoutCounter = 1)
  timeout : t.timeoutCounter =
    if t.activeKey = none then s.timeoutCounter
    else if t.activeKey = s.activeKey ∧ s.timeoutCounter ≠ 1 then s.timeoutCounter - 1
    else timeoutReload s.cfg
  thr : t.threshold =
    if t.resp.evRecover then s.cfg.constants.thresholdInit else (adaptThreshold s.threshold t.activeKey (judgePads s)).threshold
  base : ∀ i, (t.pad i).baseline =
    if t.resp.evRecover then (s.pad i).backup
    else if t.activeKey = none then inc16 s.cfg.constants.driftStep (judgePad s.threshold (s.pad i)).baseline
    else (judgePad s.threshold (s.pad i)).baseline
  trig : (∃ i, LastSet (fun i => (t.pad i).rose) (some i)
      ∧ t.resp.evTrig = some (s.cfg.voiceOfPad.get i) ∧ t.sel = some (s.cfg.voiceOfPad.get i)
      ∧ t.voices = s.voices.set (s.cfg.voiceOfPad.get i).idx (triggeredVoice s.cfg (s.cfg.voiceOfPad.get i)))
    ∨ (LastSet (fun i => (t.pad i).rose) none ∧ t.resp.evTrig = none ∧ t.sel = s.sel ∧ t.voices = s.voices)

/-- The end of a RUN cycle, after the key machine: the press-edge trigger and the clearing of the freshness flags. -/
theorem clear_trigger_post (k : State) :
    ∃ t, t = clearFresh (triggerOnEdge k) ∧ (∀ i, t.pad i = { k.pad i with measValid := false })
      ∧ t.mode = k.mode ∧ t.calRounds = k.calRounds ∧ t.snd = k.snd ∧ SameNoise k t
      ∧ t.pulseCounter = k.pulseCounter ∧ SameErrors k t ∧ SameEnv k t
      ∧ t.resp.wake = k.resp.wake ∧ t.resp.nbit = k.resp.nbit ∧ t.resp.evRecover = k.resp.evRecover
      ∧ t.threshold = k.threshold ∧ t.activeKey = k.activeKey ∧ t.activeKeyPrev = k.activeKeyPrev
      ∧ t.timeoutCounter = k.timeoutCounter ∧ t.quietCounter = k.quietCounter
      ∧ ((∃ i, LastSet (fun i => (t.pad i).rose) (some i)
          ∧ t.resp.evTrig = some (k.cfg.voiceOfPad.get i) ∧ t.sel = some (k.cfg.voiceOfPad.get i)
          ∧ t.voices = k.voices.set (k.cfg.voiceOfPad.get i).idx (triggeredVoice k.cfg (k.cfg.voiceOfPad.get i)))
        ∨ (LastSet (fun i => (t.pad i).rose) none ∧ t.resp.evTrig = k.resp.evTrig ∧ t.sel = k.sel
          ∧ t.voices = k.voices)) := by
  have hp : ∀ i, (clearFresh (triggerOnEdge k)).pad i = {k.pad i with measValid := false} := by
    intro i; simp [State.pad, -pads_get]
  have hr : (fun i => ((clearFresh (triggerOnEdge k)).pad i).rose) = fun i => (k.pad i).rose := by
    funext i; rw [hp]; rfl
  refine ⟨_, rfl, hp, by simp, by simp, by simp, by simp [SameNoise], by simp, by simp [SameErrors], by simp [SameEnv], ?_, ?_, ?_, by simp, by simp, by simp, by simp, by simp, ?_⟩
  · rcases triggerOnEdge_cases k with ⟨i, h, e⟩ | ⟨h, e⟩ <;> rw [e] <;> rfl
  · rcases triggerOnEdge_cases k with ⟨i, h, e⟩ | ⟨h, e⟩ <;> rw [e] <;> rfl
  · rcases triggerOnEdge_cases k with ⟨i, h, e⟩ | ⟨h, e⟩ <;> rw [e] <;> rfl
  · rw [hr]
    rcases triggerOnEdge_cases k with ⟨i, h, e⟩ | ⟨h, e⟩ <;> rw [e]
    · exact .inl ⟨i, h, rfl, rfl, rfl⟩
    · exact .inr ⟨h, rfl, rfl, rfl⟩

/-- The RUN cycle completes, and does exactly what `RunPost` says. -/
theorem exec_cycle_run_post (s : State) (hm : s.mode = .run) (hf : Fresh s) :
    ∃ t, exec .cycle s = .next t ∧ RunPost s t := by
  refine ⟨_, exec_cycle_run s hm hf, ?_⟩
  set q := s.respond Response.quiet with hq
  set key := activeKeyOf (judgePads q).pads with hkey
  set a := driftUp key (adaptThreshold q.threshold key (judgePads q)) with ha
  have e : cycleRun q = triggerOnEdge (keyMachine key a) := rfl
  rw [e]
  obtain ⟨t, ht, hpad, f1, f2, f3, f4, f5, f6, f7, f8, f9, f10, f11, f12, f13, f14, f15, f16⟩ := clear_trigger_post (keyMachine key a)
  rw [← ht]
  have hj : judgePads q = (judgePads s).respond Response.quiet := rfl
  have hkey' : key = activeKeyOf (s.pads.map (judgePad s.threshold)) := rfl
  have hapad : ∀ i, a.pad i = if key = none then {judgePad s.threshold (s.pad i) with baseline := inc16 s.cfg.constants.driftStep (judgePad s.threshold (s.pad i)).baseline} else judgePad s.threshold (s.pad i) := by
    intro i
    have : (adaptThreshold q.threshold key (judgePads q)).pad i = judgePad s.threshold (s.pad i) := by
      rw [State.pad, adaptThreshold_pads]; exact judgePads_pad q i
    cases hk : key with
    | none => 
      simp only [ha, hk, driftUp, State.mapPads_pad, if_true, adaptThreshold_cfg, judgePads_cfg]
      rw [hk] at this
      rw [this]
      rfl
    | some p => simp only [ha, hk, driftUp]; rw [hk] at this; simp [this]
  have hathr : a.threshold = (adaptThreshold s.threshold key (judgePads s)).threshold := by
    simp only [ha, driftUp_threshold, hj, adaptThreshold_respond, State.respond_threshold]
    rfl
  have hkp : (keyMachine key a).activeKey = key := keyMachine_activeKey _ _
  have haprev : a.activeKeyPrev = s.activeKey := by simp [ha, judgePads_eq]; rfl
  have hacfg : a.cfg = s.cfg := by simp [ha, judgePads_eq]; rfl
  have hato : a.timeoutCounter = s.timeoutCounter := by simp [ha, judgePads_eq]; rfl
  have haq : a.quietCounter = s.quietCounter := by simp [ha, judgePads_eq]; rfl
  have haresp : a.resp = Response.quiet := by simp [ha, judgePads_eq]; rfl
  have hlast : LastSet (fun i => ((s.pads.map (judgePad s.threshold)).get i).pressed) key := activeKeyOf_last _
  simp only [Quad.get_map, pads_get] at hlast
  have fcfg : (keyMachine key a).cfg = s.cfg := by simp [ha, judgePads_eq]; rfl
  have fsel : (keyMachine key a).sel = s.sel := by simp [ha, judgePads_eq]; rfl
  have fvoices : (keyMachine key a).voices = s.voices := by simp [ha, judgePads_eq]; rfl
  rw [fcfg, fsel, fvoices] at f16
  rw [hkp] at f12
  have frame : t.mode = s.mode ∧ t.calRounds = s.calRounds ∧ t.snd = s.snd ∧ SameNoise s t ∧ t.pulseCounter = s.pulseCounter ∧ SameErrors s t ∧ SameEnv s t := by
    refine ⟨f1.trans ?_, f2.trans ?_, f3.trans ?_, ⟨f4.1.trans ?_, f4.2.trans ?_⟩, f5.trans ?_, ⟨f6.1.trans ?_, f6.2.trans ?_⟩, ⟨f7.1.trans ?_, f7.2.trans ?_⟩⟩ <;> simp [ha, judgePads_eq] <;> rfl
  have main : ∀ (i), (t.pad i).pressedPrev = (a.pad i).pressedPrev ∧ (t.pad i).delta = (a.pad i).delta ∧ (t.pad i).pressed = (a.pad i).pressed ∧ (t.pad i).measured = (a.pad i).measured ∧ (t.pad i).backup = (a.pad i).backup ∧ (t.pad i).measValid = false := by
    intro i; rw [hpad i]
    rcases keyMachine_cases key a with ⟨h, e⟩ | ⟨p, h, hp, e⟩ | ⟨p, q, h, hp, hne, e⟩ | ⟨p, h, hp, h1, e⟩ | ⟨p, h, hp, h1, e⟩ <;> rw [e]
    · exact ⟨rfl, rfl, rfl, rfl, rfl, rfl⟩
    · exact ⟨rfl, rfl, rfl, rfl, rfl, rfl⟩
    · exact ⟨rfl, rfl, rfl, rfl, rfl, rfl⟩
    · have := recover_pad a i
      simp only [State.pad] at this ⊢
      rw [this]; exact ⟨rfl, rfl, rfl, rfl, rfl, trivial⟩
    · exact ⟨rfl, rfl, rfl, rfl, rfl, rfl⟩
  have ap : ∀ i, (a.pad i).pressedPrev = (s.pad i).pressed ∧ (a.pad i).delta = (judgePad s.threshold (s.pad i)).delta ∧ (a.pad i).pressed = (judgePad s.threshold (s.pad i)).pressed ∧ (a.pad i).measured = (s.pad i).measured ∧ (a.pad i).backup = (s.pad i).backup := by
    intro i; rw [hapad i]; split <;> simp
  have main2 : ∀ i, (t.pad i).pressedPrev = (s.pad i).pressed ∧ (t.pad i).delta = (judgePad s.threshold (s.pad i)).delta
     ∧ (t.pad i).pressed = (judgePad s.threshold (s.pad i)).pressed ∧ (t.pad i).measured = (s.pad i).measured ∧ (t.pad i).backup = (s.pad i).backup ∧ (t.pad i).measValid = false := by
    intro i
    obtain ⟨a1, a2, a3, a4, a5, a6⟩ := main i
    obtain ⟨b1, b2, b3, b4, b5⟩ := ap i
    exact ⟨a1.trans b1, a2.trans b2, a3.trans b3, a4.trans b4, a5.trans b5, a6⟩
  have resp0 : (keyMachine key a).resp.wake = false ∧ (keyMachine key a).resp.nbit = false ∧ (keyMachine key a).resp.evTrig = none := by
    rcases keyMachine_cases key a with ⟨h, e⟩ | ⟨p, h, hp, e⟩ | ⟨p, q, h, hp, hne, e⟩ | ⟨p, h, hp, h1, e⟩ | ⟨p, h, hp, h1, e⟩ <;> rw [e] <;> simp [releaseKey, pressFromIdle, changeKey, setKey, haresp, Response.quiet]
  rw [resp0.2.2] at f16
  obtain ⟨g1, g2, g3, g4, g5, g6, g7⟩ := frame
  have five : (t.resp.evRecover = true ↔ (s.activeKey ≠ none ∧ key = s.activeKey ∧ s.timeoutCounter = 1)) ∧
     (t.quietCounter = if key = none then (if s.quietCounter = 0 then 0 else s.quietCounter - 1) else if s.activeKey = none then s.cfg.quietReload else s.quietCounter) ∧
     (t.timeoutCounter = if key = none then s.timeoutCounter else if key = s.activeKey ∧ s.timeoutCounter ≠ 1 then s.timeoutCounter - 1 else timeoutReload s.cfg) ∧
     (t.threshold = if t.resp.evRecover then s.cfg.constants.thresholdInit else a.threshold) ∧ (∀ i, (t.pad i).baseline = if t.resp.evRecover then (s.pad i).backup else (a.pad i).baseline) := by
    rw [f10, f11, f14, f15]
    simp only [hpad]
    rw [haprev.symm, ← hato, ← haq]
    rcases keyMachine_cases key a with ⟨h, e⟩ | ⟨p, h, hp, e⟩ | ⟨p, q, h, hp, hne, e⟩ | ⟨p, h, hp, h1, e⟩ | ⟨p, h, hp, h1, e⟩ <;> rw [e]
    · simp [h, releaseKey, setKey, haresp, Response.quiet, eq_comm]; exact ⟨fun h1 h2 => absurd h2 h1, fun i => rfl⟩
    · simp [h, hp, pressFromIdle, setKey, haresp, Response.quiet, hacfg]; exact fun i => rfl
    · simp [h, hp, changeKey, setKey, haresp, Response.quiet, hacfg, Ne.symm hne]; exact fun i => rfl
    · simp [h, hp, h1, hacfg]
      intro i
      rw [State.pad, Quad.get_map]; exact (ap i).2.2.2.2
    · simp [h, hp, haresp, Response.quiet]
      have h1' : ¬ a.timeoutCounter = 1#32 := h1
      exact ⟨h1', fun h => absurd h h1', fun i => rfl⟩
  obtain ⟨r1, r2, r3, r4, r5⟩ := five
  rw [hathr] at r4
  rw [← f12] at r1 r2 r3 r4
  refine ⟨f12, ?_, f13.trans ?_, main2, ⟨g1, g2, g3, g4, g5, g6, g7, f8.trans resp0.1, f9.trans resp0.2.1⟩, r2, r1, r3, r4, ?_, f16⟩
  · rw [f12]
    have : (fun i => (t.pad i).pressed) = fun i => (judgePad s.threshold (s.pad i)).pressed := by funext i; exact (main2 i).2.2.1
    rw [this]; exact hlast
  · simp [haprev]
  · intro i
    rw [r5 i, f12, hapad i]
    split <;> [rfl; (split <;> rfl)]

end Sys2Proof.Machine
end

