-- ==== Sys2Proof/Laws/Voices.lean ====
section
/-! SUPPORT. What a `TICK` can change (spec/42_voices.md R156 to R161), said once, and the noise source's update. -/

namespace Sys2Proof.Machine

/-- The pulse counter's count moves the counter and the response only. -/
theorem countPulse_eq (s : State) :
    countPulse s = { s with resp := (countPulse s).resp, pulseCounter := (countPulse s).pulseCounter } := by
  unfold countPulse
  split <;> rfl

@[simp] theorem countPulse_cfg (s : State) : (countPulse s).cfg = s.cfg := by
  rw [countPulse_eq]
@[simp] theorem countPulse_inputs (s : State) : (countPulse s).inputs = s.inputs := by
  rw [countPulse_eq]
@[simp] theorem countPulse_pads (s : State) : (countPulse s).pads = s.pads := by
  rw [countPulse_eq]
@[simp] theorem countPulse_mode (s : State) : (countPulse s).mode = s.mode := by
  rw [countPulse_eq]
@[simp] theorem countPulse_calRounds (s : State) : (countPulse s).calRounds = s.calRounds := by
  rw [countPulse_eq]
@[simp] theorem countPulse_threshold (s : State) : (countPulse s).threshold = s.threshold := by
  rw [countPulse_eq]
@[simp] theorem countPulse_activeKey (s : State) : (countPulse s).activeKey = s.activeKey := by
  rw [countPulse_eq]
@[simp] theorem countPulse_activeKeyPrev (s : State) : (countPulse s).activeKeyPrev = s.activeKeyPrev := by
  rw [countPulse_eq]
@[simp] theorem countPulse_timeoutCounter (s : State) : (countPulse s).timeoutCounter = s.timeoutCounter := by
  rw [countPulse_eq]
@[simp] theorem countPulse_quietCounter (s : State) : (countPulse s).quietCounter = s.quietCounter := by
  rw [countPulse_eq]
@[simp] theorem countPulse_sel (s : State) : (countPulse s).sel = s.sel := by
  rw [countPulse_eq]
@[simp] theorem countPulse_voices (s : State) : (countPulse s).voices = s.voices := by
  rw [countPulse_eq]
@[simp] theorem countPulse_lfsr1 (s : State) : (countPulse s).lfsr1 = s.lfsr1 := by
  rw [countPulse_eq]
@[simp] theorem countPulse_lfsr2 (s : State) : (countPulse s).lfsr2 = s.lfsr2 := by
  rw [countPulse_eq]
@[simp] theorem countPulse_snd (s : State) : (countPulse s).snd = s.snd := by
  rw [countPulse_eq]
@[simp] theorem countPulse_errIllegal (s : State) : (countPulse s).errIllegal = s.errIllegal := by
  rw [countPulse_eq]
@[simp] theorem countPulse_errStale (s : State) : (countPulse s).errStale = s.errStale := by
  rw [countPulse_eq]

/-- A voice's tick moves voice counters, the noise registers and the line only. -/
theorem tickVoice_eq (s : State) :
    tickVoice s = { s with voices := (tickVoice s).voices, lfsr1 := (tickVoice s).lfsr1, lfsr2 := (tickVoice s).lfsr2, snd := (tickVoice s).snd } := by
  unfold tickVoice
  split
  · rfl
  · simp only [tickBass]
    split
    · rfl
    · split <;> rfl
  · simp only [tickSnare]
    split
    · rfl
    · split <;> rfl
  · rfl
  · simp only [tickHihat]
    split <;> rfl

@[simp] theorem tickVoice_cfg (s : State) : (tickVoice s).cfg = s.cfg := by
  rw [tickVoice_eq]
@[simp] theorem tickVoice_inputs (s : State) : (tickVoice s).inputs = s.inputs := by
  rw [tickVoice_eq]
@[simp] theorem tickVoice_resp (s : State) : (tickVoice s).resp = s.resp := by
  rw [tickVoice_eq]
@[simp] theorem tickVoice_pads (s : State) : (tickVoice s).pads = s.pads := by
  rw [tickVoice_eq]
@[simp] theorem tickVoice_mode (s : State) : (tickVoice s).mode = s.mode := by
  rw [tickVoice_eq]
@[simp] theorem tickVoice_calRounds (s : State) : (tickVoice s).calRounds = s.calRounds := by
  rw [tickVoice_eq]
@[simp] theorem tickVoice_threshold (s : State) : (tickVoice s).threshold = s.threshold := by
  rw [tickVoice_eq]
@[simp] theorem tickVoice_activeKey (s : State) : (tickVoice s).activeKey = s.activeKey := by
  rw [tickVoice_eq]
@[simp] theorem tickVoice_activeKeyPrev (s : State) : (tickVoice s).activeKeyPrev = s.activeKeyPrev := by
  rw [tickVoice_eq]
@[simp] theorem tickVoice_timeoutCounter (s : State) : (tickVoice s).timeoutCounter = s.timeoutCounter := by
  rw [tickVoice_eq]
@[simp] theorem tickVoice_quietCounter (s : State) : (tickVoice s).quietCounter = s.quietCounter := by
  rw [tickVoice_eq]
@[simp] theorem tickVoice_sel (s : State) : (tickVoice s).sel = s.sel := by
  rw [tickVoice_eq]
@[simp] theorem tickVoice_pulseCounter (s : State) : (tickVoice s).pulseCounter = s.pulseCounter := by
  rw [tickVoice_eq]
@[simp] theorem tickVoice_errIllegal (s : State) : (tickVoice s).errIllegal = s.errIllegal := by
  rw [tickVoice_eq]
@[simp] theorem tickVoice_errStale (s : State) : (tickVoice s).errStale = s.errStale := by
  rw [tickVoice_eq]

@[simp] theorem countPulse_pad (s : State) (i : PadIdx) : (countPulse s).pad i = s.pad i := by
  simp only [State.pad, countPulse_pads]

@[simp] theorem countPulse_voice (s : State) (v : VoiceId) : (countPulse s).voice v = s.voice v := by
  simp only [State.voice, countPulse_voices]

@[simp] theorem tickVoice_pad (s : State) (i : PadIdx) : (tickVoice s).pad i = s.pad i := by
  simp only [State.pad, tickVoice_pads]

/-- The pulse counter's two cases (R157). -/
theorem countPulse_cases (s : State) :
    (s.pulseCounter = 1 ∧ (countPulse s).pulseCounter = pulseReload s ∧ (countPulse s).resp = { s.resp with wake := true })
      ∨ (s.pulseCounter ≠ 1 ∧ (countPulse s).pulseCounter = s.pulseCounter - 1 ∧ (countPulse s).resp = s.resp) := by
  have key : s.pulseCounter - 1 = 0 ↔ s.pulseCounter = 1 := by
    constructor <;> intro h <;> bv_omega
  unfold countPulse
  by_cases h : s.pulseCounter - 1 = 0
  · rw [if_pos h]; exact .inl ⟨key.mp h, rfl, rfl⟩
  · rw [if_neg h]; exact .inr ⟨fun e => h (key.mpr e), rfl, rfl⟩

/-- A voice's tick neither reads nor writes the response. -/
theorem tickVoice_respond (s : State) (r : Response) : tickVoice (s.respond r) = (tickVoice s).respond r := by
  unfold tickVoice
  simp only [State.respond_sel]
  split
  · rfl
  · simp only [tickBass, State.respond_voice, State.respond_cfg]
    by_cases spent : bassTotal s.cfg ≤ (s.voice .bass).phase.toNat <;> simp only [spent, if_true, if_false]
    by_cases first : (s.voice .bass).phase = 0 <;> simp only [first, if_true, if_false] <;> rfl
  · simp only [tickSnare, State.respond_voice, State.respond_cfg]
    by_cases spent : snareTotal s.cfg ≤ (s.voice .snare).phase.toNat <;> simp only [spent, if_true, if_false]
    by_cases one : (s.voice .snare).phase.toNat < s.cfg.snareP1Ticks.toNat <;> simp only [one, if_true, if_false]
      <;> rfl
  · rfl
  · simp only [tickHihat, State.respond_voice, State.respond_cfg]
    by_cases spent : s.cfg.hihatTicks.toNat ≤ (s.voice .hihat).phase.toNat <;> simp only [spent, if_true, if_false]
    rfl

/-- The sound side after a `TICK` is the selected voice's tick. -/
theorem tick_sameVoiceState (s : State) :
    SameVoiceState (tickVoice s) (countPulse (tickVoice (s.respond Response.quiet))) := by
  rw [tickVoice_respond]
  refine ⟨?_, ?_, ⟨?_, ?_⟩, ?_⟩ <;> simp

/-- A voice other than the selected one keeps its counters. -/
theorem tickVoice_voice_ne (s : State) (v : VoiceId) (h : s.sel ≠ some v) : (tickVoice s).voice v = s.voice v := by
  unfold tickVoice
  split <;> rename_i hs
  · rfl
  all_goals
    have hv : v ≠ _ := fun e => h (hs.trans (congrArg some e.symm))
    first
      | simp only [tickBass]
      | simp only [tickSnare]
      | simp only [tickBuzz]
      | simp only [tickHihat]
    repeat' split
    all_goals first | rfl | exact State.setVoice_voice_ne _ _ _ _ hv

/-- The bit `next_bit()` returns is the feedback it shifts in (43_noise.md R181 (c)). -/
theorem noiseBit_eq (s : State) : noiseBit s = feedback s.cfg.constants.lfsr1Taps s.lfsr1 := by
  simp [noiseBit, lfsr1Next]

/-- The first register's feedback under the source's taps. -/
theorem feedback_lfsr1 (r : BitVec 16) :
    feedback Constants.source.lfsr1Taps r
      = (r.getLsbD 15 ^^ r.getLsbD 14 ^^ r.getLsbD 12 ^^ r.getLsbD 4) := by
  simp [feedback, Constants.source]

/-- The second register's feedback under the source's taps. -/
theorem feedback_lfsr2 (r : BitVec 15) :
    feedback Constants.source.lfsr2Taps r = (r.getLsbD 14 ^^ r.getLsbD 13) := by
  simp [feedback, Constants.source]

theorem lfsr1Next_bit_zero (taps : List Nat) (r : BitVec 16) :
    (lfsr1Next taps r).getLsbD 0 = feedback taps r := by
  simp [lfsr1Next]

theorem lfsr2Next_bit_zero (taps : List Nat) (r : BitVec 15) :
    (lfsr2Next taps r).getLsbD 0 = feedback taps r := by
  simp [lfsr2Next]

theorem lfsr1Next_bit_succ (taps : List Nat) (r : BitVec 16) (k : Nat) (h : k < 15) :
    (lfsr1Next taps r).getLsbD (k + 1) = r.getLsbD k := by
  simp [lfsr1Next, h]

theorem lfsr2Next_bit_succ (taps : List Nat) (r : BitVec 15) (k : Nat) (h : k < 14) :
    (lfsr2Next taps r).getLsbD (k + 1) = r.getLsbD k := by
  simp [lfsr2Next, h]

end Sys2Proof.Machine
end

