-- ==== Sys2Proof/Laws/Step.lean ====
section
/-! SUPPORT. What a step can do, said once: which of its cases ran (spec/20_memory.md R65, 60_exceptions.md R200), and what no
command of any kind changes. -/

namespace Sys2Proof.Machine

/-- A step that answers a next state took a presented input, or found none. -/
theorem step_cases {s t : State} (h : step s = .next t) :
    s.cfg.ok = true ∧ ((s.inputs = [] ∧ t = idleEdge s)
      ∨ ∃ inp rest, s.inputs = inp :: rest ∧ runInput inp (takeInput rest s) = .next t) := by
  unfold step at h
  split at h
  · cases h
  · rename_i hc
    split at h
    · rename_i hi
      cases h
      exact ⟨hc, .inl ⟨hi, rfl⟩⟩
    · rename_i inp rest hi
      exact ⟨hc, .inr ⟨inp, rest, hi, h⟩⟩

/-- An input is a reset, a command, an illegal word or an idle edge. -/
theorem runInput_cases {inp : PortInput} {s t : State} (h : runInput inp s = .next t) :
    (inp.rst = true ∧ t = resetBlock s)
      ∨ (inp.rst = false ∧ inp.cmdValid = true
        ∧ ((∃ i, decode inp.cmd = .ok i ∧ exec i s = .next t)
          ∨ (∃ r, decode inp.cmd = .error r) ∧ t = illegalCommand s))
      ∨ (inp.rst = false ∧ inp.cmdValid = false ∧ t = idleEdge s) := by
  unfold runInput at h
  cases h1 : inp.rst <;> cases h2 : inp.cmdValid <;> simp only [h1, h2, if_true, if_false, Bool.false_eq_true] at h
  · cases h
    exact .inr (.inr ⟨rfl, rfl, rfl⟩)
  · cases hd : decode inp.cmd <;> rw [hd] at h
    · cases h
      exact .inr (.inl ⟨rfl, rfl, .inr ⟨⟨_, rfl⟩, rfl⟩⟩)
    · exact .inr (.inl ⟨rfl, rfl, .inl ⟨_, rfl, h⟩⟩)
  · cases h
    exact .inl ⟨rfl, rfl⟩
  · cases h
    exact .inl ⟨rfl, rfl⟩

/-- A `CYCLE` is stale, or runs its mode's rule (R106). -/
theorem exec_cycle_cases {s t : State} (h : exec .cycle s = .next t) :
    (¬ Fresh s ∧ t = flagStale (s.respond Response.quiet))
      ∨ (Fresh s ∧ t = clearFresh (cycleByMode (s.respond Response.quiet))) := by
  by_cases hf : Fresh s
  · rw [exec_cycle_fresh s hf] at h
    injection h with h
    exact .inr ⟨hf, h.symm⟩
  · rw [exec_cycle_stale s hf] at h
    injection h with h
    exact .inl ⟨hf, h.symm⟩

/-- `RunPost` of the state a RUN cycle answers. -/
theorem RunPost.of_exec {s t : State} (hm : s.mode = .run) (hf : Fresh s) (h : exec .cycle s = .next t) :
    RunPost s t := by
  obtain ⟨u, e, hp⟩ := exec_cycle_run_post s hm hf
  rw [h] at e
  injection e with e
  rwa [e]

/-- Agreement on the voice registers is agreement on every voice. -/
theorem SameVoiceState.voice {s t : State} (h : SameVoiceState s t) (v : VoiceId) : t.voice v = s.voice v := by
  simp only [State.voice, h.2.1]

end Sys2Proof.Machine
end

