-- ==== Sys2Proof/Machine/Assembler.lean ====
section
/-! DEFINITION. The textual form of a command stream (spec/30_encoding.md R90) and the pseudo-instructions (R91), over lists of
characters. One line is one command or one pseudo-instruction; a line that R90 and R91 give no reading is refused (`none`). -/

namespace Sys2Proof.Machine

/-- A reading as an operand of `MEAS` (R84). -/
def operand16 (m : Nat) : U16 := BitVec.ofNat 16 m

/-- `MEASV p, m` (R91). -/
def measv (p : PadIdx) (m : U16) : List Instr := [.meas p m m]

/-- `SAMPLE m0, m1, m2, m3` (R91). -/
def sample (m0 m1 m2 m3 : U16) : List Instr :=
  measv 0 m0 ++ measv 1 m1 ++ measv 2 m2 ++ measv 3 m3 ++ [.cycle]

/-- `CALIBRATE m0, m1, m2, m3` (R91): the sample cycle 16 times. -/
def calibrate (m0 m1 m2 m3 : U16) : List Instr := (List.replicate 16 (sample m0 m1 m2 m3)).flatten

/-- `TICKS n` (R91). -/
def ticks (n : Nat) : List Instr := List.replicate n .tick

/-- White space between the parts of a line. -/
def isBlank (c : Char) : Bool := c == ' ' || c == '\t'

/-- The text without the blanks around it. -/
def strip (cs : List Char) : List Char := ((cs.dropWhile isBlank).reverse.dropWhile isBlank).reverse

/-- The line up to its comment: "`;` starts a comment" (R90). -/
def uncomment (cs : List Char) : List Char := strip (cs.takeWhile (· != ';'))

/-- The parts between the commas: "operands separated by commas" (R90). -/
def splitCommas : List Char → List (List Char)
  | [] => [[]]
  | c :: cs =>
    match splitCommas cs with
    | [] => [[c]]
    | part :: parts => if c == ',' then [] :: part :: parts else (c :: part) :: parts

/-- The value of a digit in `base`. -/
def digitValue (base : Nat) (c : Char) : Option Nat :=
  let n := c.toNat
  let v :=
    if 48 ≤ n ∧ n ≤ 57 then n - 48
    else if 65 ≤ n ∧ n ≤ 70 then n - 55
    else if 97 ≤ n ∧ n ≤ 102 then n - 87
    else base
  if v < base then some v else none

/-- The number written by digits in `base`, most significant first. -/
def readDigits (base : Nat) (cs : List Char) : Option Nat :=
  if cs.isEmpty then none
  else
    cs.foldl (fun acc c => acc.bind fun n => (digitValue base c).map fun v => n * base + v) (some 0)

/-- "numbers decimal, or hexadecimal with `0x`" (R90). -/
def readNumber (cs : List Char) : Option Nat :=
  match cs with
  | '0' :: 'x' :: digits => readDigits 16 digits
  | digits => readDigits 10 digits

/-- A 16-bit operand, 0 to 65535 (R90). -/
def readU16 (cs : List Char) : Option U16 :=
  (readNumber cs).bind fun n => if n < 65536 then some (operand16 n) else none

/-- An index 0 to 3 (R90). -/
def readIdx (cs : List Char) : Option (Fin 4) :=
  (readNumber cs).bind fun n => if h : n < 4 then some ⟨n, h⟩ else none

/-- "Voice operands are written as the names `BASS`, `SNARE`, `BUZZ`, `HIHAT` or as `0` to `3`" (R90). -/
def readVoice (cs : List Char) : Option VoiceId :=
  if cs = ['B', 'A', 'S', 'S'] then some .bass
  else if cs = ['S', 'N', 'A', 'R', 'E'] then some .snare
  else if cs = ['B', 'U', 'Z', 'Z'] then some .buzz
  else if cs = ['H', 'I', 'H', 'A', 'T'] then some .hihat
  else (readIdx cs).map VoiceId.ofIdx

/-- The four readings of `SAMPLE` and `CALIBRATE`. -/
def readFour (f : U16 → U16 → U16 → U16 → List Instr) (args : List (List Char)) : Option (List Instr) :=
  match args with
  | [a, b, c, d] =>
    (readU16 a).bind fun m0 => (readU16 b).bind fun m1 => (readU16 c).bind fun m2 =>
      (readU16 d).map fun m3 => f m0 m1 m2 m3
  | _ => none

/-- The commands one mnemonic and its operands stand for (R90, R91). -/
def readCommand (mnemonic : List Char) (args : List (List Char)) : Option (List Instr) :=
  if mnemonic = ['N', 'O', 'P'] then (if args = [] then some [.nop] else none)
  else if mnemonic = ['C', 'Y', 'C', 'L', 'E'] then (if args = [] then some [.cycle] else none)
  else if mnemonic = ['T', 'I', 'C', 'K'] then (if args = [] then some [.tick] else none)
  else if mnemonic = ['N', 'O', 'I', 'S', 'E'] then (if args = [] then some [.noise] else none)
  else if mnemonic = ['M', 'E', 'A', 'S'] then
    match args with
    | [p, a, b] =>
      (readIdx p).bind fun i => (readU16 a).bind fun x => (readU16 b).map fun y => [.meas i x y]
    | _ => none
  else if mnemonic = ['T', 'R', 'I', 'G'] then
    match args with
    | [v] => (readVoice v).map fun i => [.trig i]
    | _ => none
  else if mnemonic = ['M', 'E', 'A', 'S', 'V'] then
    match args with
    | [p, m] => (readIdx p).bind fun i => (readU16 m).map fun x => measv i x
    | _ => none
  else if mnemonic = ['S', 'A', 'M', 'P', 'L', 'E'] then readFour sample args
  else if mnemonic = ['C', 'A', 'L', 'I', 'B', 'R', 'A', 'T', 'E'] then readFour calibrate args
  else if mnemonic = ['T', 'I', 'C', 'K', 'S'] then
    match args with
    | [n] => (readNumber n).map ticks
    | _ => none
  else none

/-- One line of a command stream (R90): "One command per line; mnemonic in capitals". -/
def readLine (line : List Char) : Option (List Instr) :=
  let text := uncomment line
  if text.isEmpty then some []
  else
    let rest := strip (text.dropWhile fun c => !isBlank c)
    readCommand (text.takeWhile fun c => !isBlank c)
      (if rest.isEmpty then [] else (splitCommas rest).map strip)

/-- The words of a command stream, one line after another. -/
def assembleLines : List (List Char) → Option (List CmdWord)
  | [] => some []
  | line :: lines =>
    (readLine line).bind fun is => (assembleLines lines).map fun ws => is.map encode ++ ws

end Sys2Proof.Machine
end

