-- ==== Sys2Proof/Tests/Slice0.lean ====
section
/-! SUPPORT. The model's own tests. Expected values are taken from spec/95_test_vectors.md (V1 to V38, its programs' words), from
the rules' worked examples, or computed by hand from the rule a test names; none is the model's own answer. The second half
holds, for every statement with hypotheses, a witness that meets them together. -/

namespace Sys2Proof.Tests

open Sys2Proof.Machine

/-! ## WellFormed: an ill-formed term for each check -/

/-- A field record no check refuses: `MEAS 2, 1, 1`. -/
def goodFields : CmdFields := { op := 1, p := 2, rsv := 0, a := 1, b := 1 }

theorem test_wellFormed_accepts : goodFields.wellFormed = true := by decide

theorem test_wellFormed_rsv : ({ goodFields with rsv := 1 }).wellFormed = false := by decide

theorem test_wellFormed_opcode : ({ goodFields with op := 6, p := 0, a := 0, b := 0 }).wellFormed = false := by decide

theorem test_wellFormed_a : ({ goodFields with op := 4, a := 1, b := 0 }).wellFormed = false := by decide

theorem test_wellFormed_b : ({ goodFields with op := 2, p := 0, a := 0, b := 1 }).wellFormed = false := by decide

theorem test_wellFormed_p : ({ goodFields with op := 3, p := 1, a := 0, b := 0 }).wellFormed = false := by decide

/-- A supplied sweep that meets R7. -/
def swept : Config := { Config.illustrative with bassPeriodTable := some [2, 2, 3] }

/-- R7 accepts the illustrative configuration, with the default sweep and with a supplied one. -/
theorem test_config_accepts : Config.illustrative.ok = true ∧ swept.ok = true := by decide

theorem test_config_timeout_low : ({ Config.illustrative with sampleRate := 0 }).ok = false := by decide

/-- 3 × 1431655765 is 2^32 − 1; the next rate is refused. -/
theorem test_config_timeout_high :
    ({ Config.illustrative with sampleRate := 1431655765 }).ok = true
      ∧ ({ Config.illustrative with sampleRate := 1431655766 }).ok = false := by decide

theorem test_config_pulsesActive : ({ Config.illustrative with pulsesActive := 0 }).ok = false := by decide

theorem test_config_pulsesRelaxed : ({ Config.illustrative with pulsesRelaxed := 0 }).ok = false := by decide

theorem test_config_bassStart : ({ Config.illustrative with bassPeriodStart := 0 }).ok = false := by decide

theorem test_config_bassEnd : ({ Config.illustrative with bassPeriodEnd := 1 }).ok = false := by decide

theorem test_config_bassGliss : ({ Config.illustrative with bassGlissTicks := 0 }).ok = false := by decide

theorem test_config_bassTotal : ({ Config.illustrative with bassEchoTicks := 65528 }).ok = false := by decide

theorem test_config_sweep_start : ({ swept with bassPeriodTable := some [3, 3] }).ok = false := by decide

theorem test_config_sweep_falls : ({ swept with bassPeriodTable := some [2, 4, 3] }).ok = false := by decide

theorem test_config_sweep_overshoots : ({ swept with bassPeriodTable := some [2, 5] }).ok = false := by decide

theorem test_config_snarePeriod : ({ Config.illustrative with snareResPeriod := 0 }).ok = false := by decide

theorem test_config_snareTail : ({ Config.illustrative with snareP2Ticks := 8 }).ok = false := by decide

theorem test_config_snareTotal :
    ({ Config.illustrative with snareP1Ticks := 40000, snareP2Ticks := 30000 }).ok = false := by decide

theorem test_config_buzz : ({ Config.illustrative with buzzPeriod := 0 }).ok = false := by decide

/-- The illustrative configuration with other constants. -/
def withConstants (k : Constants) : Config := { Config.illustrative with constants := k }

/-- Constants the types do not hold are refused, one for each conjunct of the check. -/
theorem test_constants_refused :
    [{ Constants.source with nPads := 5 }, { Constants.source with nVoices := 3 }, { Constants.source with wBase := 17 },
        { Constants.source with wDelta := 16 }, { Constants.source with wCnt := 16 },
        { Constants.source with lfsr1Width := 17 }, { Constants.source with lfsr2Width := 16 },
        { Constants.source with calRounds := 0 }, { Constants.source with calRounds := 16 },
        { Constants.source with lfsr1Taps := [16] }, { Constants.source with lfsr2Taps := [14, 15] },
        { Constants.source with lfsr1Taps := [15, 15] }, { Constants.source with lfsr2Taps := [14, 13, 14] },
        { Constants.source with lfsrSeed := 32768 }, { Constants.source with pressDiv := 0 },
        { Constants.source with idleDiv := 0 }].all (fun k => !(withConstants k).ok) = true := by decide

/-- A corrected literal is a configuration (R8): taps, rounds, start threshold, drift, divisors and seed. -/
theorem test_constants_accepted :
    (withConstants { Constants.source with
      lfsr1Taps := [15, 14, 12, 3], calRounds := 14, thresholdInit := 90, driftStep := 2, pressDiv := 8, idleDiv := 3,
      minLevel := 20, timeoutFactor := 2, lfsrSeed := 5 }).ok = true := by decide

/-! ## Decode: a word of every constructor written out from R80 to R82 -/

theorem test_decode_nop : decode 0b0000_00_00_0000000000000000_0000000000000000 = .ok .nop := by decide

/-- V2: `0x1804000410`. -/
theorem test_decode_meas : decode 0b0001_10_00_0000010000000000_0000010000010000 = .ok (.meas 2 1024 1040) := by decide

/-- V1: every operand at its largest value. -/
theorem test_decode_meas_top : decode 0x1CFFFFFFFF = .ok (.meas 3 65535 65535) := by decide

theorem test_decode_cycle : decode 0b0010_00_00_0000000000000000_0000000000000000 = .ok .cycle := by decide

theorem test_decode_tick : decode 0b0011_00_00_0000000000000000_0000000000000000 = .ok .tick := by decide

/-- V1: the four voices. -/
theorem test_decode_trig :
    decode 0b0100_00_00_0000000000000000_0000000000000000 = .ok (.trig .bass)
      ∧ decode 0b0100_01_00_0000000000000000_0000000000000000 = .ok (.trig .snare)
      ∧ decode 0b0100_10_00_0000000000000000_0000000000000000 = .ok (.trig .buzz)
      ∧ decode 0b0100_11_00_0000000000000000_0000000000000000 = .ok (.trig .hihat) := by decide

theorem test_decode_noise : decode 0b0101_00_00_0000000000000000_0000000000000000 = .ok .noise := by decide

/-- V1: the encoder's words. -/
theorem test_encode :
    [Instr.nop, .meas 0 1024 1040, .meas 1 2000 2000, .meas 3 4000 4000, .cycle, .tick, .trig .buzz, .noise].map encode
      = [0x0000000000, 0x1004000410, 0x1407D007D0, 0x1C0FA00FA0, 0x2000000000, 0x3000000000, 0x4800000000,
          0x5000000000] := by decide

/-- V3: the reserved words, each refused by its name. -/
theorem test_decode_reserved :
    decode 0x6000000000 = .error .opcode ∧ decode 0xF000000000 = .error .opcode
      ∧ decode 0x2000000001 = .error .operandNotZero ∧ decode 0x0400000000 = .error .operandNotZero
      ∧ decode 0x0000000001 = .error .operandNotZero ∧ decode 0x1100000000 = .error .rsvNotZero
      ∧ decode 0x1200000000 = .error .rsvNotZero ∧ decode 0x4000010000 = .error .operandNotZero
      ∧ decode 0x3400000000 = .error .operandNotZero ∧ decode 0x5000000001 = .error .operandNotZero := by decide

/-- The table's numbering is the word's own. -/
theorem test_decodeTableWord :
    decodeTableWord 40 0x1804000410 = some (.meas 2 1024 1040) ∧ decodeTableWord 40 0x6000000000 = none := by decide

/-! ## The assembler's words (R90, R91; the words of V1 and of program P3) -/

theorem test_assemble_lines :
    assembleLines ["MEAS 0, 1290, 1310   ; a comment".toList, "TRIG HIHAT".toList, "".toList, "TRIG 1".toList,
        "MEASV 3, 0xFA0".toList]
      = some [0x10050A051E, 0x4C00000000, 0x4400000000, 0x1C0FA00FA0] := by decide

theorem test_assemble_sample :
    assembleLines ["SAMPLE 1000, 2000, 3000, 4000".toList, "TICKS 2".toList]
      = some [0x1003E803E8, 0x1407D007D0, 0x180BB80BB8, 0x1C0FA00FA0, 0x2000000000, 0x3000000000, 0x3000000000] := by
  decide

/-- R91: "Sixty-four `MEAS` and sixteen `CYCLE` commands" (70_reset_and_hazards.md R225). -/
theorem test_calibrate_length :
    (calibrate 1 2 3 4).length = 80 ∧ ((calibrate 1 2 3 4).filter fun i => i == .cycle).length = 16 := by decide

theorem test_assemble_refuses :
    assembleLines ["MEAS 4, 0, 0".toList] = none ∧ assembleLines ["MEAS 0, 65536, 0".toList] = none
      ∧ assembleLines ["nop".toList] = none ∧ assembleLines ["TICK 1".toList] = none := by decide

/-! ## One step of each command -/

/-- The state an outcome gives, if it gives one. -/
def nextOf : Host.Outcome State Fault Refusal → Option State
  | .next t => some t
  | .fault _ => none
  | .refused _ => none

/-- A pad calibrated at `m` (V-state C of 95_test_vectors.md section 1). -/
def calibrated (m : U16) : Pad := { Pad.reset with baseline := m, measured := m, backup := m }

/-- State C(m, m, m, m). -/
def running (m : U16) : State :=
  { State.reset with mode := .run, calRounds := 15, pads := Quad.fill (calibrated m) }

/-- The state with four fresh readings. -/
def sampled (m0 m1 m2 m3 : U16) (s : State) : State :=
  { s with
    pads := {
      p0 := { s.pads.p0 with measured := m0, measValid := true }
      p1 := { s.pads.p1 with measured := m1, measValid := true }
      p2 := { s.pads.p2 with measured := m2, measValid := true }
      p3 := { s.pads.p3 with measured := m3, measValid := true } } }

/-- The state with one pad active for the whole previous cycle, its timeout at `n`. -/
def held (p : PadIdx) (n : U32) (s : State) : State :=
  { s.setPad p { s.pad p with pressed := true } with activeKey := some p, timeoutCounter := n, quietCounter := 3 }

/-- P4: `NOP` leaves the state, with both flags set. -/
theorem test_nop :
    nextOf (exec .nop { State.reset with errIllegal := true, errStale := true })
      = some { State.reset with errIllegal := true, errStale := true } := by decide

/-- V5: the six rows. -/
theorem test_meas_values :
    [(1024, 1040), (3, 4), (0, 1), (0, 0), (65535, 0), (65535, 65535)].map
        (fun ab => (nextOf (exec (.meas 1 ab.1 ab.2) State.reset)).map fun t => (t.pad 1).measured)
      = [some 1032, some 3, some 0, some 0, some 32767, some 65535] := by decide

/-- V5: the flags. -/
theorem test_meas_flags :
    (nextOf (exec (.meas 1 10 10) State.reset)).map (fun t => t.pads.map (·.measValid))
      = some { p0 := false, p1 := true, p2 := false, p3 := false } := by decide

/-- V12 and V13: snap, press, drift, adaptation, trigger. -/
theorem test_cycle_run :
    (nextOf (exec .cycle (sampled 900 1000 1500 1000 (running 1000)))).map
        (fun t => (t.pads.map (·.baseline), t.pads.map (·.pressed), t.threshold, t.activeKey))
        = some ({ p0 := 950, p1 := 1000, p2 := 1000, p3 := 1000 },
            { p0 := false, p1 := false, p2 := true, p3 := false }, 112, some 2)
      ∧ (nextOf (exec .cycle (sampled 900 1000 1500 1000 (running 1000)))).map
        (fun t => (t.timeoutCounter, t.quietCounter, t.resp.evTrig, t.voice .buzz))
        = some (6, 3, some .buzz, { phase := 0, period := 3, divider := 0 })
      ∧ (nextOf (exec .cycle (sampled 900 1000 1000 1050 (running 1000)))).map
        (fun t => (t.pads.map (·.baseline), t.threshold, t.activeKey, t.resp.evTrig))
        = some ({ p0 := 951, p1 := 1001, p2 := 1001, p3 := 1001 }, 62, none, none) :=
  ⟨by decide, by decide, by decide⟩

/-- V7 (stale, then the seed cycle), V11 (a calibration round from 0 to 65535) and P2 cycle 6 (recovery overrides the snap and
the adaptation). -/
theorem test_cycle_modes :
    (nextOf (exec .cycle State.reset)).map (fun t => (t.errStale, t.mode)) = some (true, .seed)
      ∧ (nextOf (exec .cycle (sampled 1000 1000 1000 1000 State.reset))).map
        (fun t => (t.pads.map (·.baseline), t.mode)) = some (Quad.fill 1000, .cal)
      ∧ (nextOf (exec .cycle (sampled 65535 65535 65535 65535 { State.reset with mode := .cal, calRounds := 14 }))).map
        (fun t => (t.pads.map (·.backup), t.mode, t.calRounds)) = some (Quad.fill 32767, .run, 15)
      ∧ (nextOf (exec .cycle (sampled 900 2000 1000 1000 { held 1 1 (running 1000) with threshold := 247 }))).map
        (fun t => (t.pads.map (·.baseline), t.threshold, t.timeoutCounter, t.resp.evRecover))
        = some (Quad.fill 1000, 100, 6, true) := by decide

/-- V30 tick 9 (the divider goes 1 to 2 under the new period 4) and tick 15, V31 tick 5 (a noise toggle in phase 1), V32 tick 3,
V33 tick 5; each from the row before it. -/
theorem test_tick_voices :
    (nextOf (exec .tick ({ State.reset with sel := some .bass, snd := true, lfsr1 := 2, lfsr2 := 2 }.setVoice .bass
        { phase := 8, period := 3, divider := 1 }))).map (fun t => (t.voice .bass, t.snd, t.lfsr1))
        = some ({ phase := 9, period := 4, divider := 2 }, true, 2)
      ∧ (nextOf (exec .tick ({ State.reset with sel := some .bass }.setVoice .bass
        { phase := 14, period := 4, divider := 3 }))).map (fun t => (t.voice .bass, t.snd))
        = some ({ phase := 15, period := 4, divider := 0 }, true)
      ∧ (nextOf (exec .tick ({ State.reset with sel := some .snare, snd := true, lfsr1 := 16, lfsr2 := 16 }.setVoice .snare
        { phase := 4, period := 3, divider := 1 }))).map (fun t => (t.voice .snare, t.snd, t.lfsr1, t.lfsr2))
        = some ({ phase := 5, period := 3, divider := 2 }, false, 33, 32)
      ∧ (nextOf (exec .tick ({ State.reset with sel := some .buzz }.setVoice .buzz
        { phase := 0, period := 3, divider := 2 }))).map (fun t => (t.voice .buzz, t.snd, t.lfsr1))
        = some ({ phase := 0, period := 3, divider := 0 }, true, 1)
      ∧ (nextOf (exec .tick ({ State.reset with sel := some .hihat, lfsr1 := 16, lfsr2 := 16 }.setVoice .hihat
        { phase := 4, period := 0, divider := 0 }))).map (fun t => ((t.voice .hihat).phase, t.snd, t.lfsr1))
        = some (5, true, 33) := by decide

/-- V26 ticks 1 and 4, and V27's reload with a quiet countdown. -/
theorem test_tick_pulse :
    (nextOf (exec .tick State.reset)).map (fun t => (t.resp.wake, t.pulseCounter)) = some (false, 3)
      ∧ (nextOf (exec .tick { State.reset with pulseCounter := 1 })).map (fun t => (t.resp.wake, t.pulseCounter))
        = some (true, 4)
      ∧ (nextOf (exec .tick { State.reset with pulseCounter := 1, quietCounter := 3 })).map
        (fun t => (t.resp.wake, t.pulseCounter)) = some (true, 2) := by decide

/-- R153 with R151: V35's `TRIG BUZZ` leaves the snare frozen and the line alone. -/
theorem test_trig :
    (nextOf (exec (.trig .buzz) ({ State.reset with sel := some .snare, snd := true }.setVoice .snare
        { phase := 5, period := 3, divider := 2 }))).map
        (fun t => (t.sel, t.voice .snare, t.voice .buzz, t.snd, t.resp.evTrig))
      = some (some .buzz, { phase := 5, period := 3, divider := 2 }, { phase := 0, period := 3, divider := 0 }, true,
          some .buzz) := by decide

/-- V37: the four chosen states. -/
theorem test_noise_steps :
    [(0x8000, 0x4000), (0xFFFF, 0x7FFF), (0x0010, 0x0010), (0x9010, 0x6000)].map
        (fun r => (nextOf (exec .noise { State.reset with lfsr1 := r.1, lfsr2 := r.2 })).map
          fun t => (t.resp.nbit, t.lfsr1, t.lfsr2))
      = [some (true, 0x0001, 0x0001), some (false, 0xFFFE, 0x7FFE), some (true, 0x0021, 0x0020),
          some (true, 0x2021, 0x4000)] := by decide

/-- V38's first call, from reset: the bit is 0, the registers are 2, the line stays. Under the taps {15, 14, 12, 3} of
93_implementation_defined.md U12 bit 3 feeds back, and bit 4 does not. -/
theorem test_noise_first :
    (nextOf (exec .noise State.reset)).map (fun t => (t.resp.nbit, t.lfsr1, t.lfsr2, t.snd)) = some (false, 2, 2, false)
      ∧ [0x0008, 0x0010].map (fun r =>
          (nextOf (exec .noise { State.reset with
            cfg := withConstants { Constants.source with lfsr1Taps := [15, 14, 12, 3] }, lfsr1 := r })).map
              fun t => (t.resp.nbit, t.lfsr1))
        = [some (true, 0x0011), some (false, 0x0020)] := by
  decide

/-! ## The step and the ports -/

/-- `withFetchWord` makes the very next step run the word, from reset and from a state that has inputs of its own. -/
theorem test_withFetchWord :
    (nextOf (step (State.reset.withFetchWord 40 0x1804000410))).map (fun t => ((t.pad 2).measured, t.inputs)) = some (1032, [])
      ∧ (nextOf (step ((State.reset.withFetchWord 40 0x3000000000).withFetchWord 40 0x5000000000))).map
        (fun t => (t.lfsr1, t.pulseCounter, t.inputs.length)) = some (2, 4, 1) := by decide

/-- V3: a reserved word from R0. -/
theorem test_step_illegal :
    nextOf (step (State.reset.withFetchWord 40 0x6000000000)) = some { State.reset with errIllegal := true } := by decide

/-- R220: reset wins over the command presented with it. -/
theorem test_step_reset :
    nextOf (step { running 1000 with snd := true, inputs := [{ rst := true, cmdValid := true, cmd := 0x3000000000 }] })
      = some State.reset := by decide

/-- R65: the ports after V12's cycle (threshold 112, key and voice 2, RUN) and of the relaxed reset state. -/
theorem test_ports :
    (nextOf (exec .cycle (sampled 900 1000 1500 1000 (running 1000)))).map
        (fun t => (activeKeyPort t, selPort t, modePort t, thresholdPort t, evTrigPort t, relaxedPort t))
        = some (0b110, 0b110, 2, 112, 0b110, false)
      ∧ activeKeyPort State.reset = 0 ∧ relaxedPort State.reset = true ∧ modePort State.reset = 0
      ∧ errPort { State.reset with errStale := true } = 0b10 := by decide

/-- R103's difference of two snapshots, modulo 2^16: of a 16-bit timer that wrapped, and of a wider one. -/
theorem test_elapsed : elapsedCount 65530 4 = 10 ∧ elapsedCount 131066 131076 = 10 := by decide

/-! ## Witnesses: for each statement with hypotheses, a state and operands that meet them, at each clause's boundary -/

/-- `Fresh` of four sampled pads. -/
theorem sampled_fresh (m0 m1 m2 m3 : U16) (s : State) : Fresh (sampled m0 m1 m2 m3 s) := fun i =>
  match i with
  | 0 => rfl
  | 1 => rfl
  | 2 => rfl
  | 3 => rfl

theorem witness_EncodeOfDecode : decode 0x1804000410 = .ok (.meas 2 1024 1040) := by decide

/-- One input of each kind. -/
def withInput (rst valid : Bool) (w : CmdWord) : State :=
  { State.reset with inputs := [{ rst := rst, cmdValid := valid, cmd := w }] }

theorem witness_StepRunsDecodedCommand :
    ∃ (s : State) (w : CmdWord) (rest : List PortInput) (i : Instr),
      s.cfg.ok = true ∧ s.inputs = { rst := false, cmdValid := true, cmd := w } :: rest ∧ decode w = .ok i :=
  ⟨withInput false true 0x1804000410, 0x1804000410, [], .meas 2 1024 1040, by decide, rfl, by decide⟩

theorem witness_IllegalWordSetsFlagOnly :
    ∃ (s : State) (w : CmdWord) (rest : List PortInput) (r : Reserved),
      s.cfg.ok = true ∧ s.inputs = { rst := false, cmdValid := true, cmd := w } :: rest ∧ decode w = .error r :=
  ⟨withInput false true 0x2000000001, 0x2000000001, [], .operandNotZero, by decide, rfl, by decide⟩

theorem witness_ResetGivesTableValues :
    ∃ (s : State) (valid : Bool) (w : CmdWord) (rest : List PortInput),
      s.cfg.ok = true ∧ s.cfg.constants = Constants.source
        ∧ s.inputs = { rst := true, cmdValid := valid, cmd := w } :: rest :=
  ⟨withInput true true 0x3000000000, true, 0x3000000000, [], by decide, rfl, rfl⟩

theorem witness_IdleEdgeHoldsState :
    (State.reset.cfg.ok = true ∧ State.reset.inputs = [])
      ∧ (withInput false false 7).cfg.ok = true
      ∧ (withInput false false 7).inputs = [{ rst := false, cmdValid := false, cmd := 7 }] :=
  ⟨⟨by decide, rfl⟩, by decide, rfl⟩

theorem witness_ConfigCheckIsTheRule :
    Config.illustrative.constants = Constants.source
      ∧ ({ State.reset with cfg := { Config.illustrative with buzzPeriod := 0 } }).cfg.ok = false := by decide

/-- Its clauses' boundaries `t` = 7 and `t` = 8. -/
theorem witness_DefaultSweepIsLinear :
    Config.illustrative.bassPeriodTable = none ∧ 1 ≤ Config.illustrative.bassPeriodStart.toNat
      ∧ Config.illustrative.bassPeriodStart.toNat ≤ Config.illustrative.bassPeriodEnd.toNat
      ∧ 1 ≤ Config.illustrative.bassGlissTicks.toNat
      ∧ 7 < Config.illustrative.bassGlissTicks.toNat ∧ Config.illustrative.bassGlissTicks.toNat ≤ 8 := by decide

theorem witness_StepAlwaysCompletes : State.reset.cfg.ok = true := by decide

theorem witness_ConfigurationIsConstant : step State.reset = .next (idleEdge State.reset) := rfl

theorem witness_NoiseShiftsBothRegisters : State.reset.cfg.constants = Constants.source := rfl

/-- A voice selected, its counters as given. -/
def sounding (v : VoiceId) (phase period divider : U16) : State :=
  { State.reset with sel := some v }.setVoice v { phase := phase, period := period, divider := divider }

/-- Silent at the total of 16, the attack burst at 0, the last sounding tick at 15. -/
theorem witness_TickAdvancesBass :
    (sounding .bass 16 4 1).sel = some .bass ∧ (sounding .bass 0 0 0).sel = some .bass
      ∧ (sounding .bass 15 4 0).sel = some .bass
      ∧ bassTotal Config.illustrative = 16 := by decide

/-- Phase 1 ends at 7, phase 2 begins at 8 and ends at 11, silence at 12. -/
theorem witness_TickAdvancesSnare :
    (sounding .snare 7 3 0).sel = some .snare ∧ (sounding .snare 8 3 2).sel = some .snare
      ∧ (sounding .snare 11 3 2).sel = some .snare ∧ (sounding .snare 12 3 2).sel = some .snare
      ∧ Config.illustrative.snareP1Ticks = 8 ∧ snareTotal Config.illustrative = 12 := by decide

theorem witness_TickAdvancesBuzz : (sounding .buzz 0 3 2).sel = some .buzz := by decide

/-- The last sounding tick at 7, silence at 8. -/
theorem witness_TickAdvancesHihat :
    (sounding .hihat 7 0 0).sel = some .hihat ∧ (sounding .hihat 8 0 0).sel = some .hihat
      ∧ Config.illustrative.hihatTicks = 8 := by decide

theorem witness_OnlySelectedVoiceMoves :
    exec .nop State.reset = .next (State.reset.respond Response.quiet) ∧ Instr.nop ≠ .tick
      ∧ (sounding .buzz 0 3 2).sel ≠ some .snare ∧ State.reset.sel = none :=
  ⟨rfl, by decide, by decide, rfl⟩

theorem witness_SpentVoiceIsSilent :
    ((sounding .bass 16 4 1).sel = some .bass
        ∧ bassTotal Config.illustrative ≤ ((sounding .bass 16 4 1).voice .bass).phase.toNat)
      ∧ ((sounding .snare 12 3 2).sel = some .snare
        ∧ snareTotal Config.illustrative ≤ ((sounding .snare 12 3 2).voice .snare).phase.toNat)
      ∧ ((sounding .hihat 8 0 0).sel = some .hihat
        ∧ Config.illustrative.hihatTicks.toNat ≤ ((sounding .hihat 8 0 0).voice .hihat).phase.toNat) := by decide

theorem witness_StaleCycleSetsFlagOnly : ∃ i, (State.reset.pad i).measValid = false := ⟨3, rfl⟩

theorem witness_SeedCycleCopiesReadings :
    ∃ s : State, s.mode = .seed ∧ Fresh s := ⟨sampled 1000 2000 3000 4000 State.reset, rfl, sampled_fresh _ _ _ _ _⟩

/-- A state in mode CAL with `n` rounds done. -/
def calibrating (n : BitVec 4) : State :=
  sampled 1100 1100 1100 1100 { running 1000 with mode := .cal, calRounds := n }

/-- A round before the last, and the last. -/
theorem witness_CalCycleAverages :
    (∀ n, (calibrating n).cfg.constants = Constants.source)
      ∧ ((calibrating 13).mode = .cal ∧ Fresh (calibrating 13) ∧ (calibrating 13).calRounds.toNat < 15)
      ∧ (calibrating 14).mode = .cal ∧ Fresh (calibrating 14) ∧ (calibrating 14).calRounds.toNat = 14 :=
  ⟨fun _ => rfl, ⟨rfl, sampled_fresh _ _ _ _ _, by decide⟩, rfl, sampled_fresh _ _ _ _ _, by decide⟩

/-- The baselines of successive rounds from `seed` under the reading `m`. -/
def rounds (seed m : U16) : Nat → U16
  | 0 => seed
  | k + 1 => avg16 (rounds seed m k) m

/-- From above, from below, and from the reading itself. -/
theorem witness_CalibrationConverges :
    (∀ k, rounds 3000 2000 (k + 1) = avg16 (rounds 3000 2000 k) 2000) ∧ (2000 : U16).toNat ≤ (rounds 3000 2000 0).toNat
      ∧ (∀ k, rounds 1000 2000 (k + 1) = avg16 (rounds 1000 2000 k) 2000) ∧ (rounds 1000 2000 0).toNat < (2000 : U16).toNat
      ∧ (2000 : U16).toNat ≤ (rounds 2000 2000 0).toNat :=
  ⟨fun _ => rfl, by decide, fun _ => rfl, by decide, by decide⟩

/-- V12: the hypotheses the statements of section 'CYCLE in RUN' share. -/
theorem witness_run_cycle :
    (sampled 900 1000 1500 1000 (running 1000)).cfg.ok = true ∧ (sampled 900 1000 1500 1000 (running 1000)).mode = .run
      ∧ Fresh (sampled 900 1000 1500 1000 (running 1000)) :=
  ⟨by decide, rfl, sampled_fresh _ _ _ _ _⟩

/-- A RUN cycle that meets those hypotheses, under the source's constants, and leaves `p`. -/
def RunsTo (s : State) (p : State → Prop) : Prop :=
  s.cfg.ok = true ∧ s.cfg.constants = Constants.source ∧ s.mode = .run ∧ Fresh s
    ∧ ∃ t, exec .cycle s = .next t ∧ p t

/-- A sampled RUN state under the illustrative configuration meets the hypotheses. -/
theorem runsTo {m0 m1 m2 m3 : U16} {s : State} {p : State → Prop} (hc : s.cfg = Config.illustrative)
    (hm : s.mode = .run) (h : ∃ t, exec .cycle (sampled m0 m1 m2 m3 s) = .next t ∧ p t) :
    RunsTo (sampled m0 m1 m2 m3 s) p :=
  ⟨hc ▸ test_config_accepts.1, hc ▸ rfl, hm, sampled_fresh _ _ _ _ _, h⟩

/-- V16's first rows (a write, and `q` = `thr0`), V18's first and second row, without recovery. -/
theorem witness_RunCycleAdaptsThreshold :
    RunsTo (sampled 1000 1000 2000 1000 (running 1000)) (fun t => t.resp.evRecover = false ∧ t.activeKey = some 2)
      ∧ RunsTo (sampled 1000 1000 1400 1000 (running 1000)) (fun t => t.resp.evRecover = false ∧ t.activeKey = some 2)
      ∧ RunsTo (sampled 1010 1040 1090 1000 (running 1000)) (fun t => t.resp.evRecover = false ∧ t.activeKey = none
        ∧ 30 < (t.pad 1).delta.toInt ∧ ∀ j, j < 1 → (t.pad j).delta.toInt ≤ 30)
      ∧ RunsTo (sampled 1030 1030 1030 1030 (running 1000)) (fun t => t.resp.evRecover = false ∧ t.activeKey = none
        ∧ ∀ i, (t.pad i).delta.toInt ≤ 30) :=
  ⟨runsTo rfl rfl ⟨_, rfl, by decide⟩, runsTo rfl rfl ⟨_, rfl, by decide⟩,
    runsTo rfl rfl ⟨_, rfl, by decide⟩, runsTo rfl rfl ⟨_, rfl, by decide⟩⟩

/-- A snap with drift, the drift's wrap at 65535 (V15), a snap with a pressed key, and recovery. -/
theorem witness_RunCycleMovesBaselines :
    RunsTo (sampled 999 1000 1000 1000 (running 1000)) (fun t => t.resp.evRecover = false ∧ t.activeKey = none)
      ∧ RunsTo (sampled 65535 65535 65535 65535 (running 65535)) (fun t => t.activeKey = none)
      ∧ RunsTo (sampled 900 1000 1500 1000 (running 1000)) (fun t => t.resp.evRecover = false ∧ t.activeKey = some 2)
      ∧ RunsTo (sampled 900 2000 1000 1000 (held 1 1 (running 1000))) (fun t => t.resp.evRecover = true)
      ∧ RunsTo (sampled 999 1000 1000 1000 (running 1000)) (fun t => ∃ i, (t.pad i).baseline ≠ 1000) :=
  ⟨runsTo rfl rfl ⟨_, rfl, by decide⟩, runsTo rfl rfl ⟨_, rfl, by decide⟩,
    runsTo rfl rfl ⟨_, rfl, by decide⟩, runsTo rfl rfl ⟨_, rfl, by decide⟩,
    runsTo rfl rfl ⟨_, rfl, 1, by decide⟩⟩

/-- The five rows of R136's table, the last at timeouts 2 and 1. -/
theorem witness_RunCycleKeyTransitions :
    RunsTo (sampled 1000 1000 1000 1000 (running 1000)) (fun t => t.activeKeyPrev = none ∧ t.activeKey = none)
      ∧ RunsTo (sampled 1000 1000 1000 1000 (held 1 5 (running 1000)))
        (fun t => t.activeKeyPrev = some 1 ∧ t.activeKey = none)
      ∧ RunsTo (sampled 1000 1300 1000 1000 (running 1000)) (fun t => t.activeKeyPrev = none ∧ t.activeKey = some 1)
      ∧ RunsTo (sampled 1000 1300 1000 1300 (held 1 5 (running 1000)))
        (fun t => t.activeKeyPrev = some 1 ∧ t.activeKey = some 3)
      ∧ RunsTo (sampled 1000 1300 1000 1000 (held 1 2 (running 1000)))
        (fun t => t.activeKeyPrev = some 1 ∧ t.activeKey = some 1 ∧ t.timeoutCounter = 1)
      ∧ RunsTo (sampled 1000 1300 1000 1000 (held 1 1 (running 1000)))
        (fun t => t.activeKeyPrev = some 1 ∧ t.activeKey = some 1 ∧ t.timeoutCounter = 6) :=
  ⟨runsTo rfl rfl ⟨_, rfl, by decide⟩, runsTo rfl rfl ⟨_, rfl, by decide⟩,
    runsTo rfl rfl ⟨_, rfl, by decide⟩, runsTo rfl rfl ⟨_, rfl, by decide⟩,
    runsTo rfl rfl ⟨_, rfl, by decide⟩, runsTo rfl rfl ⟨_, rfl, by decide⟩⟩

/-- Recovery without an edge, recovery with an edge of another pad, and the same pad held without recovery. -/
theorem witness_StuckKeyRecovers :
    RunsTo (sampled 900 2000 1000 1000 (held 1 1 (running 1000)))
        (fun t => t.resp.evRecover = true ∧ ∀ i, (t.pad i).pressed = true → (t.pad i).pressedPrev = true)
      ∧ RunsTo (sampled 1300 2000 1000 1000 (held 1 1 (running 1000)))
        (fun t => t.resp.evRecover = true ∧ (t.pad 0).pressed = true ∧ (t.pad 0).pressedPrev = false)
      ∧ RunsTo (sampled 1000 2000 1000 1000 (held 1 2 (running 1000)))
        (fun t => t.resp.evRecover = false ∧ t.activeKey = some 1) :=
  ⟨runsTo rfl rfl ⟨_, rfl, by decide⟩, runsTo rfl rfl ⟨_, rfl, by decide⟩,
    runsTo rfl rfl ⟨_, rfl, by decide⟩⟩

/-- V21 (c): the edge is on pad 0 while pad 3 is held; and V21 (d): no edge. -/
theorem witness_RunCycleTriggersHighestEdge :
    RunsTo (sampled 1300 1000 1000 1300 (held 3 6 (running 1000)))
        (fun t => LastSet (fun i => (t.pad i).pressed && !(t.pad i).pressedPrev) (some 0))
      ∧ RunsTo (sampled 1300 1000 1000 1000 (held 0 6 (running 1000)))
        (fun t => LastSet (fun i => (t.pad i).pressed && !(t.pad i).pressedPrev) none) :=
  ⟨runsTo rfl rfl ⟨_, rfl, by unfold LastSet; decide⟩,
    runsTo rfl rfl ⟨_, rfl, by unfold LastSet; decide⟩⟩

/-- Up in the pressed branch, down in the idle branch. -/
theorem witness_ThresholdMovesTowardTarget :
    RunsTo (sampled 1000 1000 1408 1000 (running 1000))
        (fun t => t.resp.evRecover = false ∧ t.activeKey = some 2 ∧ t.threshold ≠ 100)
      ∧ RunsTo (sampled 1030 1031 1090 1000 (running 1000))
        (fun t => t.resp.evRecover = false ∧ t.activeKey = none ∧ t.threshold ≠ 100) :=
  ⟨runsTo rfl rfl ⟨_, rfl, by decide⟩, runsTo rfl rfl ⟨_, rfl, by decide⟩⟩

/-- An Idle cycle at the top of the range that does not wrap. -/
theorem witness_BaselineRisesAtMostOne :
    RunsTo (sampled 65534 65534 65534 65534 (running 65534)) (fun t => t.resp.evRecover = false ∧ t.activeKey = none)
      ∧ ((sampled 65534 65534 65534 65534 (running 65534)).pad 0).baseline.toNat < 65535 :=
  ⟨runsTo rfl rfl ⟨_, rfl, by decide⟩, by decide⟩

/-- Pad 1 held at delta 300 (V23) with `SAMPLE_RATE` 1, from the cycle that made it the active key. -/
def stuckAfter : Nat → State
  | 0 =>
    { held 1 3 (sampled 1000 1300 1000 1000 (running 1000)) with cfg := { Config.illustrative with sampleRate := 1 } }
  | k + 1 => (nextOf (exec .cycle (sampled 1000 1300 1000 1000 (stuckAfter k)))).getD State.reset

/-- The state each of those cycles is issued in. -/
def stuckBefore (k : Nat) : State := sampled 1000 1300 1000 1000 (stuckAfter k)

theorem witness_StuckKeyTiming :
    (stuckAfter 0).cfg.ok = true ∧ (stuckAfter 0).cfg.constants = Constants.source ∧ (stuckAfter 0).mode = .run
      ∧ (stuckAfter 0).activeKey = some 1
      ∧ (stuckAfter 0).timeoutCounter.toNat = 3 * (stuckAfter 0).cfg.sampleRate
      ∧ ∀ k, k < 3 * (stuckAfter 0).cfg.sampleRate →
        SameKeyState (stuckAfter k) (stuckBefore k) ∧ (stuckBefore k).cfg = (stuckAfter 0).cfg ∧ Fresh (stuckBefore k)
          ∧ exec .cycle (stuckBefore k) = .next (stuckAfter (k + 1)) ∧ (stuckAfter (k + 1)).activeKey = some 1 := by
  refine ⟨by decide, rfl, rfl, rfl, by decide, fun k hk => ?_⟩
  have bound : k < 3 := hk
  match k, bound with
  | 0, _ => exact ⟨⟨rfl, rfl, rfl, rfl, rfl, rfl, rfl⟩, rfl, sampled_fresh _ _ _ _ _, rfl, by decide⟩
  | 1, _ => exact ⟨⟨rfl, rfl, rfl, rfl, rfl, rfl, rfl⟩, by decide, sampled_fresh _ _ _ _ _, rfl, by decide⟩
  | 2, _ => exact ⟨⟨rfl, rfl, rfl, rfl, rfl, rfl, rfl⟩, by decide, sampled_fresh _ _ _ _ _, rfl, by decide⟩

/-- The rows of R110's table: another command, a stale cycle, SEED, CAL at 13 and 14 rounds, RUN. -/
theorem witness_LifecycleNeverGoesBack :
    State.reset.cfg.constants = Constants.source ∧ (∀ n, (calibrating n).cfg.constants = Constants.source)
      ∧ (exec .nop State.reset = .next (State.reset.respond Response.quiet) ∧ Instr.nop ≠ .cycle)
      ∧ ¬ Fresh State.reset
      ∧ (Fresh (sampled 1 1 1 1 State.reset) ∧ (sampled 1 1 1 1 State.reset).mode = .seed)
      ∧ (Fresh (calibrating 13) ∧ (calibrating 13).mode = .cal ∧ (calibrating 13).calRounds.toNat ≤ 13)
      ∧ (Fresh (calibrating 14) ∧ (calibrating 14).mode = .cal ∧ (calibrating 14).calRounds.toNat = 14)
      ∧ Fresh (sampled 1 1 1 1 (running 1)) ∧ (sampled 1 1 1 1 (running 1)).mode = .run :=
  ⟨rfl, fun _ => rfl, ⟨rfl, by decide⟩, fun h => absurd (h 0) (by decide), ⟨sampled_fresh _ _ _ _ _, rfl⟩,
    ⟨sampled_fresh _ _ _ _ _, rfl, by decide⟩, ⟨sampled_fresh _ _ _ _ _, rfl, by decide⟩, sampled_fresh _ _ _ _ _, rfl⟩

theorem witness_BackupWrittenOnlyByLastRound :
    (calibrating 14).cfg.constants = Constants.source
      ∧ ∃ t, exec .cycle (calibrating 14) = .next t ∧ ∃ p, (t.pad p).backup ≠ ((calibrating 14).pad p).backup :=
  ⟨rfl, _, rfl, 0, by decide⟩

theorem witness_OnlyCycleMovesKeyState :
    (∃ t, exec .tick State.reset = .next t) ∧ (∀ p a b, Instr.tick ≠ .meas p a b) ∧ Instr.tick ≠ .cycle
      ∧ ∃ t, exec (.meas 0 1 1) State.reset = .next t :=
  ⟨⟨_, rfl⟩, fun _ _ _ h => Instr.noConfusion h, by decide, _, rfl⟩

/-- A step that sets each flag, from a state that has the other. -/
theorem witness_ErrorFlagsAreSticky :
    (∃ t, step { withInput false true 0x6000000000 with errStale := true } = .next t
        ∧ t.errIllegal = true ∧ t.errStale = true)
      ∧ ∃ t, step { withInput false true 0x2000000000 with errIllegal := true } = .next t
        ∧ t.errIllegal = true ∧ t.errStale = true :=
  ⟨⟨_, rfl, by decide, by decide⟩, _, rfl, by decide, by decide⟩

/-- A stale `CYCLE`, one with four fresh measurements, and a command that is no `CYCLE`. -/
theorem witness_ErrorFlagsAreInert :
    ((∃ t, exec .cycle State.reset = .next t) ∧ ¬ Fresh State.reset)
      ∧ ((∃ t, exec .cycle (sampled 1 1 1 1 State.reset) = .next t) ∧ Fresh (sampled 1 1 1 1 State.reset))
      ∧ (∃ t, exec .nop State.reset = .next t) ∧ Instr.nop ≠ .cycle :=
  ⟨⟨⟨_, rfl⟩, fun h => absurd (h 0) (by decide)⟩, ⟨⟨_, rfl⟩, sampled_fresh _ _ _ _ _⟩, ⟨_, rfl⟩, by decide⟩

/-- An Idle cycle that counts the quiet countdown from 3 to 2 and one that leaves it at 0, both with the pulse counter at 1, and
one that takes the countdown to 0 with the pulse counter at 2. -/
theorem witness_TickCommutesWithCycle :
    (∃ c k, exec .cycle { sampled 1000 1000 1000 1000 (held 1 5 (running 1000)) with pulseCounter := 1 } = .next c
        ∧ exec .tick { sampled 1000 1000 1000 1000 (held 1 5 (running 1000)) with pulseCounter := 1 } = .next k
        ∧ c.resp.evTrig = none ∧ c.quietCounter = 2)
      ∧ (∃ c k, exec .cycle { sampled 1000 1000 1000 1000 (running 1000) with pulseCounter := 1 } = .next c
        ∧ exec .tick { sampled 1000 1000 1000 1000 (running 1000) with pulseCounter := 1 } = .next k
        ∧ c.resp.evTrig = none ∧ c.quietCounter = 0)
      ∧ ∃ c k, exec .cycle { sampled 1000 1000 1000 1000 (running 1000) with pulseCounter := 2, quietCounter := 1 } = .next c
        ∧ exec .tick { sampled 1000 1000 1000 1000 (running 1000) with pulseCounter := 2, quietCounter := 1 } = .next k
        ∧ c.resp.evTrig = none ∧ c.quietCounter = 0 :=
  ⟨⟨_, _, rfl, rfl, by decide, by decide⟩, ⟨_, _, rfl, rfl, by decide, by decide⟩, _, _, rfl, rfl, by decide, by decide⟩

theorem witness_VoicesSeeOnlyTheSoundSide :
    ({ sounding .bass 0 0 0 with threshold := 7 }).cfg = (sounding .bass 0 0 0).cfg
      ∧ SameVoiceState (sounding .bass 0 0 0) { sounding .bass 0 0 0 with threshold := 7 } :=
  ⟨rfl, rfl, rfl, ⟨rfl, rfl⟩, rfl⟩

/-- The first register after `k` calls from the seed. -/
def lfsr1After : Nat → BitVec 16
  | 0 => 1
  | k + 1 => lfsr1Next Constants.source.lfsr1Taps (lfsr1After k)

theorem witness_FirstRegisterHasPeriod3855 :
    lfsr1After 0 = 1 ∧ ∀ k, lfsr1After (k + 1) = lfsr1Next Constants.source.lfsr1Taps (lfsr1After k) := ⟨rfl, fun _ => rfl⟩

/-- A RUN state with a pressed key meets the pad side's invariant, and a step runs a cycle from it. -/
theorem witness_StepKeepsPadSide :
    PadSideOk { held 1 5 (sampled 1000 1300 1000 1000 (running 1000)) with inputs := (withInput false true 0x2000000000).inputs }
      ∧ ∃ t, step { held 1 5 (sampled 1000 1300 1000 1000 (running 1000)) with
          inputs := (withInput false true 0x2000000000).inputs } = .next t :=
  ⟨{ config := by decide
     constants := rfl
     roundsInSeed := by decide
     roundsInCal := by decide
     roundsInRun := by decide
     idleBeforeRun := by decide
     keyIsLast := ⟨rfl, by decide⟩
     prevKeyIsLast := fun i =>
      match i with
      | 0 => rfl
      | 1 => rfl
      | 2 => rfl
      | 3 => rfl
     thresholdLow := by decide
     thresholdHigh := by decide
     timeoutHigh := by decide
     timeoutLow := by decide
     quietHigh := by decide
     deltaRange := by decide }, _, rfl⟩

theorem witness_ResetMeetsInvariants :
    Config.illustrative.ok = true ∧ Config.illustrative.constants = Constants.source := by decide

/-- A sounding snare meets the sound side's invariant, and a step ticks it. -/
theorem witness_StepKeepsSoundSide :
    SoundSideOk { sounding .snare 4 3 1 with inputs := (withInput false true 0x3000000000).inputs }
      ∧ ∃ t, step { sounding .snare 4 3 1 with inputs := (withInput false true 0x3000000000).inputs } = .next t :=
  ⟨{ config := by decide
     constants := rfl
     noise1 := by decide
     noise2 := by decide
     pulseLow := by decide
     pulseHigh := by decide
     bass := ⟨by decide, by decide⟩
     snare := ⟨by decide, by decide⟩
     buzz := ⟨by decide, by decide⟩
     hihat := ⟨by decide, by decide, by decide⟩
     untouched := fun h => nomatch h }, _, rfl⟩

/-- A first command for each clause with a premise. -/
theorem witness_RepeatedCommands :
    (∃ t, exec .nop State.reset = .next t) ∧ (∃ t, exec (.meas 1 10 12) State.reset = .next t)
      ∧ ∃ t, exec (.trig .bass) State.reset = .next t := ⟨⟨_, rfl⟩, ⟨_, rfl⟩, _, rfl⟩

end Sys2Proof.Tests
end

namespace Sys2Proof.Proofs
section Scope
/-! The scope rules: the constants of spec/00_scope.md R5. -/

open Sys2Proof.Machine

/-- R5's row `LFSR1_TAPS` read as a set: the order of the model's list does not matter. -/
theorem mem_lfsr1Taps_source (b : Nat) :
    b ∈ Constants.source.lfsr1Taps ↔ b = 15 ∨ b = 14 ∨ b = 12 ∨ b = 4 := by
  simp [Constants.source]

/-- R5's row `LFSR2_TAPS` read as a set. -/
theorem mem_lfsr2Taps_source (b : Nat) :
    b ∈ Constants.source.lfsr2Taps ↔ b = 14 ∨ b = 13 := by
  simp [Constants.source]

theorem reset_constants : State.reset.cfg.constants = Constants.source := rfl

/-- Settles O55: the two tap rows are set memberships, each of the fifteen other rows is a literal of `Constants.source`,
and the reset state carries that record. -/
theorem constantsAreTheSources : Obligations.ConstantsAreTheSources :=
  ⟨⟨rfl, rfl, rfl, rfl, rfl, rfl, rfl, rfl, rfl, rfl, rfl, mem_lfsr1Taps_source, rfl, mem_lfsr2Taps_source, rfl, rfl, rfl⟩,
    reset_constants⟩

end Scope
end Sys2Proof.Proofs

namespace Sys2Proof.Proofs
section Reset
/-! Reset: the state of spec/10_state.md R48 and the step that reaches it (spec/70_reset_and_hazards.md R220). -/

open Sys2Proof.Machine

@[simp] theorem resetWith_pad (c : Config) (i : PadIdx) : (State.resetWith c).pad i = Pad.reset :=
  Quad.get_fill Pad.reset i

@[simp] theorem resetWith_voice (c : Config) (v : VoiceId) : (State.resetWith c).voice v = Voice.dormant :=
  Quad.get_fill Voice.dormant v.idx

@[simp] theorem resetBlock_pad (s : State) (i : PadIdx) : (resetBlock s).pad i = Pad.reset :=
  resetWith_pad s.cfg i

@[simp] theorem resetBlock_voice (s : State) (v : VoiceId) : (resetBlock s).voice v = Voice.dormant :=
  resetWith_voice s.cfg v

theorem resetBlock_threshold_source {s : State} (hk : s.cfg.constants = Constants.source) :
    (resetBlock s).threshold = 100 :=
  congrArg Constants.thresholdInit hk

theorem resetBlock_lfsr1_source {s : State} (hk : s.cfg.constants = Constants.source) : (resetBlock s).lfsr1 = 1 :=
  congrArg (fun k : Constants => BitVec.ofNat 16 k.lfsrSeed) hk

theorem resetBlock_lfsr2_source {s : State} (hk : s.cfg.constants = Constants.source) : (resetBlock s).lfsr2 = 1 :=
  congrArg (fun k : Constants => BitVec.ofNat 15 k.lfsrSeed) hk

/-- The block takes the oldest presented input and runs it. -/
theorem step_of_input {s : State} {inp : PortInput} {rest : List PortInput} (hc : s.cfg.ok = true)
    (hi : s.inputs = inp :: rest) : step s = runInput inp (takeInput rest s) := by
  simp only [step, hc, hi]

/-- R220: reset wins, whatever command is presented with it. -/
theorem runInput_rst {inp : PortInput} (h : inp.rst = true) (s : State) : runInput inp s = .next (resetBlock s) :=
  if_pos h

/-- Settles O8: the step answers `resetBlock`, in which every pad is `Pad.reset` and every voice `Voice.dormant`; the
threshold and the shift registers are the source's constants, and the other elements are literals of `State.resetWith`. -/
theorem resetGivesTableValues : Obligations.ResetGivesTableValues := by
  intro s valid w rest hc hk hi
  have hstep : step s = .next (resetBlock (takeInput rest s)) := (step_of_input hc hi).trans (runInput_rst rfl _)
  refine ⟨_, hstep, rfl, rfl, rfl, rfl, fun i => ?pad, rfl, rfl, rfl, resetBlock_threshold_source hk, rfl, rfl, rfl, rfl,
    rfl, fun v => ?voice, resetBlock_lfsr1_source hk, resetBlock_lfsr2_source hk, rfl, rfl⟩
  case pad => rw [resetBlock_pad]; exact ⟨rfl, rfl, rfl, rfl, rfl, rfl, rfl⟩
  case voice => rw [resetBlock_voice]; exact ⟨rfl, rfl, rfl⟩

end Reset
end Sys2Proof.Proofs

namespace Sys2Proof.Proofs
section Encoding
/-! The encoding: the decoder of spec/30_encoding.md R85 inverts the field layout of R81 and R82, so a word decodes to a
command exactly when it is that command's word. -/

open Sys2Proof.Machine

/-- The five fields of a command's word (R81, R82). -/
def commandFields : Instr → CmdFields
  | .nop => { op := 0, p := 0, rsv := 0, a := 0, b := 0 }
  | .meas p a b => { op := 1, p := bitsOfIdx p, rsv := 0, a := a, b := b }
  | .cycle => { op := 2, p := 0, rsv := 0, a := 0, b := 0 }
  | .tick => { op := 3, p := 0, rsv := 0, a := 0, b := 0 }
  | .trig v => { op := 4, p := bitsOfIdx v.idx, rsv := 0, a := 0, b := 0 }
  | .noise => { op := 5, p := 0, rsv := 0, a := 0, b := 0 }

theorem joinFields_commandFields (i : Instr) : joinFields (commandFields i) = encode i := by
  cases i <;> rfl

theorem decodeFields_commandFields (i : Instr) : decodeFields (commandFields i) = .ok i := by
  cases i with
  | meas p a b => simp [decodeFields, commandFields]
  | trig v => simp [decodeFields, commandFields]
  | nop | cycle | tick | noise => rfl

/-- Each accepting arm of R85 fixes every field that its command's operands leave open. -/
theorem eq_commandFields_of_decodeFields {f : CmdFields} {i : Instr} (h : decodeFields f = .ok i) :
    f = commandFields i := by
  obtain ⟨op, p, rsv, a, b⟩ := f
  simp only [decodeFields] at h
  split_ifs at h with hrsv hnop hmeas hcycle htick htrig hnoise
  all_goals
    obtain rfl := Except.ok.inj h
    simp_all [commandFields]

theorem decodeFields_eq_ok_iff {f : CmdFields} {i : Instr} : decodeFields f = .ok i ↔ f = commandFields i :=
  ⟨eq_commandFields_of_decodeFields, fun h => h ▸ decodeFields_commandFields i⟩

/-- A word decodes to a command exactly when it is the command's word. -/
theorem decode_eq_ok_iff {w : CmdWord} {i : Instr} : decode w = .ok i ↔ w = encode i := by
  rw [decode, decodeFields_eq_ok_iff, ← joinFields_inj, joinFields_fieldsOf, joinFields_commandFields]

/-! ### The opcode map (R82) -/

/-- A row whose mask is all ones selects its match value alone. -/
theorem fullMask_selects_iff {w m : CmdWord} {i : Instr} (hm : encode i = m) :
    w &&& 0xFFFFFFFFFF = m ↔ decode w = .ok i := by
  have hmask : w &&& 0xFFFFFFFFFF = w := BitVec.and_allOnes
  rw [hmask, decode_eq_ok_iff, hm]

theorem fields_eq_iff {f g : CmdFields} :
    f = g ↔ f.op = g.op ∧ f.p = g.p ∧ f.rsv = g.rsv ∧ f.a = g.a ∧ f.b = g.b := by
  cases f
  cases g
  simp only [CmdFields.mk.injEq]

/-- `w & mask = match`, field by field. -/
theorem masked_eq_iff (w : CmdWord) (mask row : CmdFields) :
    w &&& joinFields mask = joinFields row ↔
      (fieldsOf w).op &&& mask.op = row.op ∧ (fieldsOf w).p &&& mask.p = row.p ∧ (fieldsOf w).rsv &&& mask.rsv = row.rsv
        ∧ (fieldsOf w).a &&& mask.a = row.a ∧ (fieldsOf w).b &&& mask.b = row.b := by
  rw [← joinFields_fieldsOf w, and_joinFields, joinFields_inj, fieldsOf_joinFields, fields_eq_iff]

/-- The row of `MEAS` fixes `op` and `rsv` and leaves the three operands free. -/
theorem measRow_selects_iff (w : CmdWord) :
    w &&& 0xF300000000 = 0x1000000000 ↔
      decode w = .ok (.meas (idxOfBits (fieldsOf w).p) (fieldsOf w).a (fieldsOf w).b) := by
  have mask : (0xF300000000 : CmdWord) =
      joinFields { op := BitVec.allOnes 4, p := 0, rsv := BitVec.allOnes 2, a := 0, b := 0 } := by decide
  have row : (0x1000000000 : CmdWord) = joinFields { op := 1, p := 0, rsv := 0, a := 0, b := 0 } := by decide
  rw [mask, row, masked_eq_iff, BitVec.and_allOnes, BitVec.and_allOnes, decode, decodeFields_eq_ok_iff, fields_eq_iff]
  simp [commandFields]

/-- The row of `TRIG` fixes every field but `p`. -/
theorem trigRow_selects_iff (w : CmdWord) :
    w &&& 0xF3FFFFFFFF = 0x4000000000 ↔ decode w = .ok (.trig (VoiceId.ofIdx (idxOfBits (fieldsOf w).p))) := by
  have mask : (0xF3FFFFFFFF : CmdWord) =
      joinFields
        { op := BitVec.allOnes 4, p := 0, rsv := BitVec.allOnes 2, a := BitVec.allOnes 16, b := BitVec.allOnes 16 } := by
    decide
  have row : (0x4000000000 : CmdWord) = joinFields { op := 4, p := 0, rsv := 0, a := 0, b := 0 } := by decide
  rw [mask, row, masked_eq_iff, BitVec.and_allOnes, BitVec.and_allOnes, BitVec.and_allOnes, BitVec.and_allOnes, decode,
    decodeFields_eq_ok_iff, fields_eq_iff]
  simp [commandFields]

/-- Settles O4: the four format Z rows have a full mask and one word each; the rows of `MEAS` and `TRIG` leave their operand
fields free. -/
theorem wordSelectsItsRow : Obligations.WordSelectsItsRow := fun w =>
  ⟨fullMask_selects_iff rfl, measRow_selects_iff w, fullMask_selects_iff rfl, fullMask_selects_iff rfl,
    trigRow_selects_iff w, fullMask_selects_iff rfl⟩

/-! ### The reserved words (R87) -/

/-- The six opcodes of R82. -/
theorem op_lt_six_iff (op : BitVec 4) :
    op.toNat < 6 ↔ op = 0 ∨ op = 1 ∨ op = 2 ∨ op = 3 ∨ op = 4 ∨ op = 5 := by
  decide +revert

theorem wellFormed_iff (f : CmdFields) :
    f.wellFormed = true ↔
      f.rsv = 0 ∧ f.op.toNat < 6 ∧ (f.op = 1 ∨ f.a = 0 ∧ f.b = 0) ∧ (f.op = 1 ∨ f.op = 4 ∨ f.p = 0) := by
  simp only [CmdFields.wellFormed, Bool.and_eq_true, Bool.or_eq_true, beq_iff_eq, decide_eq_true_eq, and_assoc, or_assoc]

/-- R85's decoder accepts exactly the fields that are not reserved by R87: each of the six opcodes has its command. -/
theorem decodeFields_accepts_iff (f : CmdFields) : (∃ i, decodeFields f = .ok i) ↔ f.wellFormed = true := by
  simp only [decodeFields_eq_ok_iff]
  constructor
  · rintro ⟨i, rfl⟩
    cases i <;> rfl
  · intro h
    obtain ⟨op, p, rsv, a, b⟩ := f
    obtain ⟨rfl, hop, hab, hp⟩ := (wellFormed_iff _).mp h
    obtain rfl | rfl | rfl | rfl | rfl | rfl := (op_lt_six_iff op).mp hop
    · exact ⟨.nop, by simp_all [commandFields]⟩
    · exact ⟨.meas (idxOfBits p) a b, by simp [commandFields]⟩
    · exact ⟨.cycle, by simp_all [commandFields]⟩
    · exact ⟨.tick, by simp_all [commandFields]⟩
    · exact ⟨.trig (VoiceId.ofIdx (idxOfBits p)), by simp_all [commandFields]⟩
    · exact ⟨.noise, by simp_all [commandFields]⟩

theorem decode_refuses_iff (w : CmdWord) : (∃ r, decode w = .error r) ↔ (fieldsOf w).wellFormed = false := by
  rw [← Bool.not_eq_true, ← decodeFields_accepts_iff, ← decode]
  cases decode w <;> simp

/-- R87's list, in its own order. -/
theorem wellFormed_eq_false_iff (f : CmdFields) :
    f.wellFormed = false ↔
      (f.rsv ≠ 0 ∨ 6 ≤ f.op.toNat
        ∨ ((f.op = 0 ∨ f.op = 2 ∨ f.op = 3 ∨ f.op = 5) ∧ (f.p ≠ 0 ∨ f.a ≠ 0 ∨ f.b ≠ 0))
        ∨ (f.op = 4 ∧ (f.a ≠ 0 ∨ f.b ≠ 0))) := by
  rw [← Bool.not_eq_true, wellFormed_iff]
  by_cases hop : f.op.toNat < 6
  · have hle : ¬ 6 ≤ f.op.toNat := Nat.not_le_of_lt hop
    obtain h | h | h | h | h | h := (op_lt_six_iff f.op).mp hop
    all_goals
      simp only [h] at hle ⊢
      tauto
  · simp only [hop, Nat.le_of_not_lt hop, false_and, and_false, not_false_eq_true, true_or, or_true]

/-- Settles O3: the decoder refuses the words whose fields are not well formed, and those are R87's list. -/
theorem decodeRejectsReservedWords : Obligations.DecodeRejectsReservedWords := fun w =>
  (decode_refuses_iff w).trans (wellFormed_eq_false_iff (fieldsOf w))

/-! ### A refused word (R88) -/

/-- R88: the block flags a word its decoder refuses. -/
theorem runInput_illegal {w : CmdWord} {r : Reserved} (h : decode w = .error r) (s : State) :
    runInput (commandInput w) s = .next (illegalCommand s) := by
  simp [runInput, commandInput, h]

/-- Settles O7: the step takes the input and answers `illegalCommand`, which writes the flag and the response only. -/
theorem illegalWordSetsFlagOnly : Obligations.IllegalWordSetsFlagOnly := fun _ _ _ _ hc hi hd =>
  (step_of_input hc hi).trans (runInput_illegal hd _)

end Encoding
end Sys2Proof.Proofs

namespace Sys2Proof.Proofs
section SensingCalibration
/-! Sensing and calibration (spec/40_sensing_calibration.md): `MEAS`, and `CYCLE` in the modes SEED and CAL. A `CYCLE` before
RUN has one shape, `calibrationUpdate`: it rewrites each pad from itself, with `mode` and `cal_rounds`. The modes differ only in
what they do to a pad. -/

open Sys2Proof.Machine

/-- The whole of a `MEAS` (R100). -/
theorem exec_meas (p : PadIdx) (a b : U16) (s : State) :
    exec (.meas p a b) s =
      .next ((s.setPad p { s.pad p with measured := avg16 a b, measValid := true }).respond Response.quiet) := rfl

/-- Settles O15: pad `p` is rewritten by `State.setPad`, which leaves the other pads; the sum does not overflow in `avg16`. -/
theorem measWritesHalfTheSum : Obligations.MeasWritesHalfTheSum := by
  intro s p a b
  refine ⟨_, exec_meas p a b s, ?sum, ?valid, ?kept, fun q hq => ?others, ⟨rfl, rfl⟩,
    ⟨rfl, rfl, rfl, rfl, rfl, rfl, rfl⟩, ⟨rfl, rfl, ⟨rfl, rfl⟩, rfl⟩, rfl, ⟨rfl, rfl⟩, rfl⟩
  case sum => rw [State.respond_pad, State.setPad_pad_same]; exact avg16_toNat a b
  case valid => rw [State.respond_pad, State.setPad_pad_same]
  case kept => rw [State.respond_pad, State.setPad_pad_same]; exact ⟨rfl, rfl, rfl, rfl, rfl⟩
  case others => exact State.setPad_pad_ne s p q _ hq

/-- What a `CYCLE` before RUN does to the state: `f` to every pad, and new values of `mode` and `cal_rounds`. -/
def calibrationUpdate (f : Pad → Pad) (mode : Mode) (rounds : BitVec 4) (s : State) : State :=
  { s with resp := Response.quiet, pads := s.pads.map f, mode := mode, calRounds := rounds }

theorem calibrationUpdate_pad (f : Pad → Pad) (mode : Mode) (rounds : BitVec 4) (s : State) (i : PadIdx) :
    (calibrationUpdate f mode rounds s).pad i = f (s.pad i) :=
  Quad.get_map f s.pads i

/-- What a `CYCLE` before RUN leaves unchanged (R107, R108), and its response. -/
def CalibrationFrame (s t : State) : Prop :=
  t.threshold = s.threshold ∧ t.activeKey = s.activeKey ∧ t.activeKeyPrev = s.activeKeyPrev
    ∧ t.timeoutCounter = s.timeoutCounter ∧ t.quietCounter = s.quietCounter
    ∧ SameEnv s t ∧ SameVoiceState s t ∧ t.pulseCounter = s.pulseCounter ∧ SameErrors s t ∧ t.resp = Response.quiet

theorem calibrationUpdate_frame (f : Pad → Pad) (mode : Mode) (rounds : BitVec 4) (s : State) :
    CalibrationFrame s (calibrationUpdate f mode rounds s) :=
  ⟨rfl, rfl, rfl, rfl, rfl, ⟨rfl, rfl⟩, ⟨rfl, rfl, ⟨rfl, rfl⟩, rfl⟩, rfl, ⟨rfl, rfl⟩, rfl⟩

/-- R107 for one pad: the seed copies the reading. -/
def seedPad (p : Pad) : Pad := { p with baseline := p.measured, measValid := false }

/-- R108 for one pad in a round before the last. -/
def roundPad (p : Pad) : Pad := { p with baseline := avg16 p.baseline p.measured, measValid := false }

/-- R108 for one pad in the last round: the backup is "the value just written". -/
def lastRoundPad (p : Pad) : Pad := { roundPad p with backup := (roundPad p).baseline }

/-- The whole of a SEED `CYCLE` with four fresh measurements (R107). -/
theorem exec_cycle_seed {s : State} (hm : s.mode = .seed) (hf : Fresh s) :
    exec .cycle s = .next (calibrationUpdate seedPad .cal 0 s) := by
  rw [exec_cycle_fresh s hf, cycleByMode, State.respond_mode, hm]
  rfl

/-- A CAL `CYCLE` with four fresh measurements runs R108. -/
theorem exec_cycle_cal {s : State} (hm : s.mode = .cal) (hf : Fresh s) :
    exec .cycle s = .next (clearFresh (cycleCal (s.respond Response.quiet))) := by
  rw [exec_cycle_fresh s hf, cycleByMode, State.respond_mode, hm]

/-- The whole of a CAL `CYCLE` with four fresh measurements, before the last round (R108): it keeps the mode. -/
theorem exec_cycle_cal_round {s : State} (hm : s.mode = .cal) (hf : Fresh s)
    (hr : (s.calRounds + 1).toNat ≠ s.cfg.constants.calRounds) :
    exec .cycle s = .next (calibrationUpdate roundPad s.mode (s.calRounds + 1) s) := by
  have hcycle : cycleCal (s.respond Response.quiet) =
      { averagePads (s.respond Response.quiet) with calRounds := s.calRounds + 1 } := if_neg hr
  rw [exec_cycle_cal hm hf, hcycle]
  rfl

/-- The whole of the last CAL `CYCLE` with four fresh measurements (R108). -/
theorem exec_cycle_cal_last {s : State} (hm : s.mode = .cal) (hf : Fresh s)
    (hr : (s.calRounds + 1).toNat = s.cfg.constants.calRounds) :
    exec .cycle s = .next (calibrationUpdate lastRoundPad .run (s.calRounds + 1) s) := by
  have hcycle : cycleCal (s.respond Response.quiet) =
      captureBackup { averagePads (s.respond Response.quiet) with calRounds := s.calRounds + 1 } := if_pos hr
  rw [exec_cycle_cal hm hf, hcycle]
  rfl

/-- Settles O26: a SEED cycle is the calibration update by `seedPad`. -/
theorem seedCycleCopiesReadings : Obligations.SeedCycleCopiesReadings := fun s hm hf =>
  ⟨_, exec_cycle_seed hm hf, calibrationUpdate_pad seedPad .cal 0 s, rfl, rfl, calibrationUpdate_frame seedPad .cal 0 s⟩

/-- What every CAL round does to a pad, the backup apart (R108). -/
def RoundOf (p q : Pad) : Prop :=
  q.baseline.toNat = (p.baseline.toNat + p.measured.toNat) / 2 ∧ q.measured = p.measured ∧ q.measValid = false
    ∧ q.delta = p.delta ∧ q.pressed = p.pressed ∧ q.pressedPrev = p.pressedPrev

theorem roundOf_roundPad (p : Pad) : RoundOf p (roundPad p) :=
  ⟨avg16_toNat p.baseline p.measured, rfl, rfl, rfl, rfl, rfl⟩

theorem roundOf_lastRoundPad (p : Pad) : RoundOf p (lastRoundPad p) := roundOf_roundPad p

/-- Below 15 the count of rounds does not wrap. -/
theorem calRounds_succ_toNat {n : BitVec 4} (h : n.toNat < 15) : (n + 1).toNat = n.toNat + 1 := by
  bv_omega

/-- Settles O27: with 14 rounds done the cycle is the calibration update by `lastRoundPad`, with fewer the one by
`roundPad`; the count, the averages and the frame are those of the update in both. -/
theorem calCycleAverages : Obligations.CalCycleAverages := by
  intro s hk hm hf hr
  have hcount : (s.calRounds + 1).toNat = s.calRounds.toNat + 1 := calRounds_succ_toNat hr
  have hrounds : s.cfg.constants.calRounds = 15 := congrArg Constants.calRounds hk
  by_cases hlast : s.calRounds.toNat = 14
  · have hpad := calibrationUpdate_pad lastRoundPad .run (s.calRounds + 1) s
    refine ⟨_, exec_cycle_cal_last hm hf (by omega), hcount, fun i => ?pads, ?last, calibrationUpdate_frame _ _ _ s⟩
    case pads => rw [hpad]; exact roundOf_lastRoundPad (s.pad i)
    case last => rw [if_pos hlast]; exact ⟨rfl, fun i => by rw [hpad]; rfl⟩
  · have hpad := calibrationUpdate_pad roundPad s.mode (s.calRounds + 1) s
    refine ⟨_, exec_cycle_cal_round hm hf (by omega), hcount, fun i => ?pads, ?round, calibrationUpdate_frame _ _ _ s⟩
    case pads => rw [hpad]; exact roundOf_roundPad (s.pad i)
    case round => rw [if_neg hlast]; exact ⟨hm, fun i => by rw [hpad]; rfl⟩

end SensingCalibration
end Sys2Proof.Proofs

namespace Sys2Proof.Proofs
section TrackerThresholdKey
/-! The running cycle (spec/41_cycle_tracker_threshold_key.md): tracker, threshold adapter, key state machine and press-edge
trigger. `RunPost` says once what a RUN `CYCLE` does; the lemmas here read it in the terms of the rules, and each obligation
is put together from them. -/

open Sys2Proof.Machine

/-! ### The tracker and the press decision (R120 to R122) -/

section Pads
variable {s t : State} (post : RunPost s t) (i : PadIdx)
include post

theorem runCycle_pressedPrev : (t.pad i).pressedPrev = (s.pad i).pressed := by
  obtain ⟨hprev, -⟩ := post.pad i
  exact hprev

/-- The delta of the next state is the one the cycle's own decisions read. -/
theorem runCycle_delta_eq : (t.pad i).delta = ((judgePads s).pad i).delta := by
  obtain ⟨-, hdelta, -⟩ := post.pad i
  rw [hdelta, judgePads_pad]

/-- R121. -/
theorem runCycle_delta :
    (t.pad i).delta.toInt = max 0 ((s.pad i).measured.toNat - (s.pad i).baseline.toNat : Int) := by
  rw [runCycle_delta_eq post, judgePads_pad, judgePad_delta]

/-- R122. -/
theorem runCycle_pressed_iff :
    (t.pad i).pressed = true ↔ (s.threshold.toNat : Int) < (t.pad i).delta.toInt := by
  obtain ⟨-, hdelta, hpressed, -⟩ := post.pad i
  rw [hpressed, hdelta, judgePad_pressed]

end Pads

/-- Settles O29: the history shift and the press decision are those of `RunPost`. -/
theorem runCycleJudgesPads : Obligations.RunCycleJudgesPads := by
  intro s hm hf
  obtain ⟨t, ht, post⟩ := exec_cycle_run_post s hm hf
  exact ⟨t, ht, post.prev, fun i => ⟨runCycle_pressedPrev post i, runCycle_pressed_iff post i⟩⟩

/-- Settles O30: the ascending scan keeps its last match (`activeKeyOf_last`), which `RunPost` says of the next state. -/
theorem runCycleActiveKeyIsLast : Obligations.RunCycleActiveKeyIsLast := by
  intro s hm hf
  obtain ⟨t, ht, post⟩ := exec_cycle_run_post s hm hf
  exact ⟨t, ht, post.last⟩

/-! ### The threshold adapter (R124, R125) -/

theorem judgePads_delta_range (s : State) (i : PadIdx) :
    0 ≤ ((judgePads s).pad i).delta.toInt ∧ ((judgePads s).pad i).delta.toInt ≤ 65535 := by
  rw [judgePads_pad]
  exact judgePad_delta_range s.threshold (s.pad i)

/-- Without recovery the adapter alone writes the threshold. -/
theorem runCycle_threshold_adapted {s t : State} (post : RunPost s t) (hr : t.resp.evRecover = false) :
    t.threshold = (adaptThreshold s.threshold t.activeKey (judgePads s)).threshold := by
  simp [post.thr, hr]

/-- Settles O31: the adapter reads the judged pads, whose deltas are the next state's; in the idle branch the pad of the
statement and the one the scan stops at are both the first above 30, so they are the same. -/
theorem runCycleAdaptsThreshold : Obligations.RunCycleAdaptsThreshold := by
  intro s t hk hm hf ht hr
  have post := RunPost.of_exec hm hf ht
  have hthr := runCycle_threshold_adapted post hr
  simp only [runCycle_delta_eq post]
  refine ⟨fun a hkey => ?pressed, fun hkey => ?idle⟩
  case pressed =>
    rw [hthr, hkey]
    exact adaptThreshold_pressed s.threshold a (judgePads s) hk (judgePads_delta_range s a) rfl
  case idle =>
    rw [hthr, hkey]
    obtain ⟨k, habove, hfirst, hvalue⟩ | ⟨hlow, hsame⟩ :=
      adaptThreshold_idle s.threshold (judgePads s) hk (judgePads_delta_range s)
    · refine ⟨fun i hi hmin => ?_, fun hlow => absurd habove (not_lt.mpr (hlow k))⟩
      have hik : i ≤ k := not_lt.mp fun hlt => not_lt.mpr (hmin k hlt) habove
      have hki : k ≤ i := not_lt.mp fun hlt => not_lt.mpr (hfirst i hlt) hi
      rw [le_antisymm hik hki, hvalue]
    · exact ⟨fun i hi _ => absurd hi (not_lt.mpr (hlow i)), fun _ => by rw [hsame]; rfl⟩

/-! ### The baselines (R121, R126, R127) -/

/-- Where a RUN cycle takes a baseline (R121, R126, R134). -/
theorem runCycle_baseline {s t : State} (post : RunPost s t) (hk : s.cfg.constants = Constants.source) (i : PadIdx) :
    (t.pad i).baseline.toNat =
      if t.resp.evRecover then (s.pad i).backup.toNat
      else if t.activeKey = none then ((judgePad s.threshold (s.pad i)).baseline.toNat + 1) % 65536
      else (judgePad s.threshold (s.pad i)).baseline.toNat := by
  have hstep : s.cfg.constants.driftStep.toNat = 1 := by rw [hk]; rfl
  rw [post.base i]
  split_ifs
  · rfl
  · rw [inc16_toNat, hstep]
  · rfl

/-- R127: no command but `CYCLE` writes a baseline. -/
theorem exec_baseline_of_ne_cycle {c : Instr} {s t : State} (hc : c ≠ .cycle) (ht : exec c s = .next t) (i : PadIdx) :
    (t.pad i).baseline = (s.pad i).baseline := by
  cases c with
  | cycle => exact absurd rfl hc
  | meas p a b =>
    obtain rfl := Host.Outcome.next.inj ht
    rw [State.respond_pad]
    by_cases hp : i = p
    · rw [hp, State.setPad_pad_same]
    · rw [State.setPad_pad_ne _ _ _ _ hp]
  | tick =>
    obtain rfl := Host.Outcome.next.inj ht
    rw [countPulse_pad, tickVoice_pad, State.respond_pad]
  | nop | trig | noise =>
    obtain rfl := Host.Outcome.next.inj ht
    rfl

/-- Settles O32: the delta and the baseline are `RunPost`'s, the snapped value `judgePad_baseline`'s; outside a fresh `CYCLE`
no baseline moves, a stale one only sets its flag. -/
theorem runCycleMovesBaselines : Obligations.RunCycleMovesBaselines := by
  refine ⟨fun s hk hm hf => ?cycle, fun c s t _ ht hmoved => ?others⟩
  case cycle =>
    obtain ⟨t, ht, post⟩ := exec_cycle_run_post s hm hf
    refine ⟨t, ht, fun i => ⟨?delta, ?baseline⟩⟩
    case delta => rw [runCycle_delta post i]; split_ifs <;> omega
    case baseline => rw [runCycle_baseline post hk i, judgePad_baseline]
  case others =>
    obtain ⟨i, hi⟩ := hmoved
    by_cases hc : c = .cycle
    · subst hc
      obtain ⟨-, rfl⟩ | ⟨hf, -⟩ := exec_cycle_cases ht
      · exact absurd rfl hi
      · exact ⟨rfl, hf⟩
    · exact absurd (exec_baseline_of_ne_cycle hc ht i) hi

/-! ### The key state machine (R130 to R133) -/

section KeyState
variable {s t : State} (post : RunPost s t)
include post

/-- Recovery needs a key that stays. -/
theorem runCycle_no_recover (h : s.activeKey = none ∨ t.activeKey ≠ s.activeKey ∨ s.timeoutCounter ≠ 1) :
    t.resp.evRecover = false := by
  rw [Bool.eq_false_iff, ne_eq, post.recov]
  tauto

/-- R133: both rows of R136 that end in Idle. -/
theorem runCycle_release (hnext : t.activeKey = none) :
    t.timeoutCounter = s.timeoutCounter ∧ t.quietCounter.toNat = s.quietCounter.toNat - 1
      ∧ t.resp.evRecover = false := by
  refine ⟨by rw [post.timeout, if_pos hnext], ?quiet, ?recover⟩
  case quiet =>
    rw [post.quiet, if_pos hnext]
    split_ifs with hzero
    · rw [hzero]; rfl
    · bv_omega
  case recover =>
    cases hprev : s.activeKey with
    | none => exact runCycle_no_recover post (.inl hprev)
    | some q => exact runCycle_no_recover post (.inr (.inl (by simp [hnext, hprev])))

/-- R130: Idle → Pressed. -/
theorem runCycle_press {p : PadIdx} (hprev : s.activeKey = none) (hnext : t.activeKey = some p) :
    t.timeoutCounter = timeoutReload s.cfg ∧ t.quietCounter = s.cfg.quietReload ∧ t.resp.evRecover = false :=
  ⟨by simp [post.timeout, hprev, hnext], by simp [post.quiet, hprev, hnext], runCycle_no_recover post (.inl hprev)⟩

/-- R131 and R132: Pressed → Pressed leaves the quiet countdown. -/
theorem runCycle_quiet_of_pressed {p q : PadIdx} (hprev : s.activeKey = some q) (hnext : t.activeKey = some p) :
    t.quietCounter = s.quietCounter := by
  simp [post.quiet, hprev, hnext]

/-- R131: the key changes. -/
theorem runCycle_change {p q : PadIdx} (hprev : s.activeKey = some q) (hnext : t.activeKey = some p) (hne : q ≠ p) :
    t.timeoutCounter = timeoutReload s.cfg ∧ t.resp.evRecover = false := by
  have hmoved : t.activeKey ≠ s.activeKey := by simpa [hprev, hnext] using hne.symm
  refine ⟨?_, runCycle_no_recover post (.inr (.inl hmoved))⟩
  rw [post.timeout, if_neg (by simp [hnext]), if_neg fun h => hmoved h.1]

/-- R132: the key stays and its time runs out. -/
theorem runCycle_stuck (hprev : s.activeKey ≠ none) (hsame : t.activeKey = s.activeKey) (hout : s.timeoutCounter = 1) :
    t.timeoutCounter = timeoutReload s.cfg ∧ t.resp.evRecover = true :=
  ⟨by simp [post.timeout, hsame, hprev, hout], post.recov.mpr ⟨hprev, hsame, hout⟩⟩

/-- R132: the key stays and its time counts down. -/
theorem runCycle_hold (hprev : s.activeKey ≠ none) (hsame : t.activeKey = s.activeKey) (hrun : s.timeoutCounter ≠ 1) :
    t.timeoutCounter = s.timeoutCounter - 1 ∧ t.resp.evRecover = false := by
  refine ⟨?_, runCycle_no_recover post (.inr (.inr hrun))⟩
  rw [post.timeout, hsame, if_neg hprev, if_pos ⟨rfl, hrun⟩]

end KeyState

/-- Settles O33: one lemma for each row of R136's table, and the reload is `3 * SAMPLE_RATE`. -/
theorem runCycleKeyTransitions : Obligations.RunCycleKeyTransitions := by
  intro s hok hk hm hf
  obtain ⟨t, ht, post⟩ := exec_cycle_run_post s hm hf
  have hreload := timeoutReload_source hok hk
  refine ⟨t, t.activeKey, ht, post.last, rfl, post.prev, ?table⟩
  cases hnext : t.activeKey with
  | none => cases s.activeKey <;> exact runCycle_release post hnext
  | some p =>
    cases hprev : s.activeKey with
    | none =>
      obtain ⟨htimeout, hquiet, hrec⟩ := runCycle_press post hprev hnext
      exact ⟨htimeout ▸ hreload, hquiet, hrec⟩
    | some q =>
      refine ⟨runCycle_quiet_of_pressed post hprev hnext, ?_⟩
      split_ifs with hne hout
      · obtain ⟨htimeout, hrec⟩ := runCycle_change post hprev hnext hne
        exact ⟨htimeout ▸ hreload, hrec⟩
      all_goals
        have hsame : t.activeKey = s.activeKey := by rw [hnext, hprev, not_not.mp hne]
        have hpressed : s.activeKey ≠ none := by simp [hprev]
      · obtain ⟨htimeout, hrec⟩ := runCycle_stuck post hpressed hsame hout
        exact ⟨htimeout ▸ hreload, hrec⟩
      · exact runCycle_hold post hpressed hsame hout

/-! ### The press-edge trigger (R135) -/

@[simp] theorem triggeredVoice_phase (c : Config) (v : VoiceId) : (triggeredVoice c v).phase = 0 := by cases v <;> rfl

@[simp] theorem triggeredVoice_divider (c : Config) (v : VoiceId) : (triggeredVoice c v).divider = 0 := by cases v <;> rfl

section Edge
variable {s t : State} (post : RunPost s t)
include post

/-- R135: the highest pad that rose triggers its voice. -/
theorem runCycle_edge {i : PadIdx} (hrose : LastSet (fun i => (t.pad i).rose) (some i)) :
    t.resp.evTrig = some (s.cfg.voiceOfPad.get i) ∧ t.sel = some (s.cfg.voiceOfPad.get i)
      ∧ t.voices = s.voices.set (s.cfg.voiceOfPad.get i).idx (triggeredVoice s.cfg (s.cfg.voiceOfPad.get i)) := by
  obtain ⟨k, hlast, h⟩ | ⟨hlast, -⟩ := post.trig
  · obtain rfl : i = k := Option.some.inj (hrose.unique hlast)
    exact h
  · cases hrose.unique hlast

/-- R135: no voice is triggered where no pad rose. -/
theorem runCycle_no_edge (hrose : LastSet (fun i => (t.pad i).rose) none) :
    t.resp.evTrig = none ∧ t.sel = s.sel ∧ t.voices = s.voices := by
  obtain ⟨k, hlast, -⟩ | ⟨-, h⟩ := post.trig
  · cases hrose.unique hlast
  · exact h

end Edge

/-- Settles O35: the descending scan finds the highest pad that rose, and `LastSet` has one solution; the trigger writes one
voice of the file. -/
theorem runCycleTriggersHighestEdge : Obligations.RunCycleTriggersHighestEdge := by
  intro s hm hf
  obtain ⟨t, ht, post⟩ := exec_cycle_run_post s hm hf
  refine ⟨t, ht, fun i hrose => ?edge, runCycle_no_edge post⟩
  obtain ⟨hev, hsel, hvoices⟩ := runCycle_edge post hrose
  generalize s.cfg.voiceOfPad.get i = v at hev hsel hvoices ⊢
  have hv : t.voice v = triggeredVoice s.cfg v := by rw [State.voice, hvoices, Quad.get_set_same]
  refine ⟨hev, hsel, by rw [hv, triggeredVoice_phase], by rw [hv, triggeredVoice_divider], ?period, fun u hu => ?others⟩
  case period => rw [hv]; cases v <;> rfl
  case others =>
    rw [State.voice, hvoices, Quad.get_set_ne _ _ _ _ fun e => hu (VoiceId.idx_injective e)]
    rfl

/-! ### Recovery (R132, R134) -/

/-- Everything a recovering cycle writes (R134), the sound side apart. -/
theorem runCycle_recovered {s t : State} (post : RunPost s t) (hrec : t.resp.evRecover = true) :
    (∀ i, (t.pad i).baseline = (s.pad i).backup) ∧ t.threshold = s.cfg.constants.thresholdInit
      ∧ t.timeoutCounter = timeoutReload s.cfg ∧ t.activeKey = s.activeKey ∧ t.quietCounter = s.quietCounter := by
  obtain ⟨hprev, hsame, hout⟩ := post.recov.mp hrec
  obtain ⟨htimeout, -⟩ := runCycle_stuck post hprev hsame hout
  refine ⟨fun i => by rw [post.base i, if_pos hrec], by rw [post.thr, if_pos hrec], htimeout, hsame, ?_⟩
  rw [post.quiet, hsame, if_neg hprev, if_neg hprev]

/-- Settles O34: the condition is `RunPost`'s, the decrement R132's other row, and a recovering cycle writes R134's registers;
the pads are judged as in any cycle, and without a press edge no voice is triggered. -/
theorem stuckKeyRecovers : Obligations.StuckKeyRecovers := by
  intro s t hok hk hm hf ht
  have post := RunPost.of_exec hm hf ht
  refine ⟨post.recov, fun hprev hsame hrec => ?decrement, fun hrec => ?recovery⟩
  case decrement =>
    have hrun : s.timeoutCounter ≠ 1 := fun hout => by simp [post.recov.mpr ⟨hprev, hsame, hout⟩] at hrec
    obtain ⟨htimeout, -⟩ := runCycle_hold post hprev hsame hrun
    rw [htimeout]
    bv_omega
  case recovery =>
    obtain ⟨hbase, hthr, htimeout, hkey, hquiet⟩ := runCycle_recovered post hrec
    obtain ⟨hmode, -, hsnd, hnoise, -, herr, -⟩ := post.frame
    refine ⟨hbase, hthr.trans (congrArg Constants.thresholdInit hk), htimeout ▸ timeoutReload_source hok hk, hkey, hquiet,
      hmode.trans hm, fun i => ⟨runCycle_pressedPrev post i, runCycle_delta post i, runCycle_pressed_iff post i⟩,
      hsnd, hnoise, herr, fun hnoedge => ?sound⟩
    have hrose : LastSet (fun i => (t.pad i).rose) none := fun i => by
      simpa [Pad.rose] using hnoedge i
    exact (runCycle_no_edge post hrose).2

end TrackerThresholdKey
end Sys2Proof.Proofs

namespace Sys2Proof.Proofs
section Voices
/-! The voices (spec/42_voices.md): the default sweep, `TRIG`, and the tick of each voice. The sound side of a `TICK` is the
selected voice's tick alone (`exec_tick_sound`), so each tick rule is read from one equation per case of that voice. -/

open Sys2Proof.Machine

/-! ### The default sweep (R162) -/

/-- R7's "`BASS_PERIOD_AT` is non-decreasing" for the default law, whatever the rest of the configuration. -/
theorem bassPeriodAt_default_mono {c : Config} (hlaw : c.bassPeriodTable = none)
    (hle : c.bassPeriodStart.toNat ≤ c.bassPeriodEnd.toNat) {t u : Nat} (htu : t ≤ u) :
    (bassPeriodAt c t).toNat ≤ (bassPeriodAt c u).toNat := by
  by_cases hu : u < c.bassGlissTicks.toNat
  · rw [(bassPeriodAt_default c t hlaw (htu.trans_lt hu) hle).1, (bassPeriodAt_default c u hlaw hu hle).1]
    gcongr
  · rw [bassPeriodAt_end c u (not_lt.mp hu)]
    by_cases ht : t < c.bassGlissTicks.toNat
    · exact (bassPeriodAt_default c t hlaw ht hle).2
    · rw [bassPeriodAt_end c t (not_lt.mp ht)]

/-- Settles O11: below `BASS_GLISS_TICKS` the ramp is `bassPeriodAt_default`'s, whose rise is 0 at tick 0; from there on the
law is its end value. -/
theorem defaultSweepIsLinear : Obligations.DefaultSweepIsLinear := by
  intro c hlaw _ hle hgliss
  have ramp := fun t ht => (bassPeriodAt_default c t hlaw ht hle).1
  refine ⟨ramp, bassPeriodAt_end c, ?start, fun t u => bassPeriodAt_default_mono hlaw hle⟩
  case start =>
    apply BitVec.eq_of_toNat_eq
    rw [ramp 0 hgliss, Nat.zero_mul, Nat.zero_div, Nat.add_zero]

/-! ### The trigger (R150 to R155) -/

/-- The whole of a `TRIG` (R150, R151). -/
theorem exec_trig (v : VoiceId) (s : State) : exec (.trig v) s = .next (trigger v (s.respond Response.quiet)) := rfl

/-- Settles O17: `trigger` writes the voice's counters, the selector and the event; `triggeredVoice` holds R152 to R155. -/
theorem trigRestartsAndSelects : Obligations.TrigRestartsAndSelects := by
  intro s v
  have hv : (trigger v (s.respond Response.quiet)).voice v = triggeredVoice s.cfg v := trigger_voice_same v _
  refine ⟨_, exec_trig v s, rfl, by rw [hv, triggeredVoice_phase], by rw [hv, triggeredVoice_divider],
    ?bass, ?snare, ?buzz, ?hihat, fun u hu => trigger_voice_ne v u _ hu, rfl, ⟨rfl, rfl⟩, rfl, ⟨rfl, rfl⟩,
    ⟨rfl, rfl, rfl, rfl, rfl, rfl, rfl⟩, ⟨rfl, rfl⟩, rfl, rfl⟩
  all_goals
    intro hid
    rw [hv, hid]
    rfl

/-! ### The pulse counter and the frame of a `TICK` (R156, R157) -/

/-- The whole of a `TICK` (R156). -/
theorem exec_tick (s : State) : exec .tick s = .next (countPulse (tickVoice (s.respond Response.quiet))) := rfl

/-- What no `TICK` writes (R156). -/
theorem tick_frame (s : State) :
    let t := countPulse (tickVoice (s.respond Response.quiet))
    t.pads = s.pads ∧ SameEnv s t ∧ SameKeyState s t ∧ SameErrors s t ∧ t.sel = s.sel := by
  simp [SameEnv, SameKeyState, SameErrors]

/-- R157's two cases for a `TICK`: the voice's tick moves neither the pulse counter nor the response. -/
theorem tick_pulse_cases (s : State) :
    let t := countPulse (tickVoice (s.respond Response.quiet))
    (s.pulseCounter = 1 ∧ t.pulseCounter = pulseReload s ∧ t.resp = { Response.quiet with wake := true })
      ∨ (s.pulseCounter ≠ 1 ∧ t.pulseCounter = s.pulseCounter - 1 ∧ t.resp = Response.quiet) := by
  simpa [pulseReload] using countPulse_cases (tickVoice (s.respond Response.quiet))

/-- R157's count read as an integer: modulo 2^16 it reaches 0 from 1 only. -/
theorem pulse_count_eq_zero_iff (p : U16) : ((p.toNat : Int) - 1) % 65536 = 0 ↔ p = 1 := by
  bv_omega

theorem pulse_count_toNat (p : U16) : ((p - 1).toNat : Int) = ((p.toNat : Int) - 1) % 65536 := by
  bv_omega

/-- Settles O18: the counter was 1 and reloads, or it was not and counts; the rest is the frame of every `TICK`. -/
theorem tickCountsPulse : Obligations.TickCountsPulse := by
  intro s
  refine ⟨_, exec_tick s, ?_⟩
  have frame := tick_frame s
  obtain ⟨hone, hcount, hresp⟩ | ⟨hne, hcount, hresp⟩ := tick_pulse_cases s
  · rw [hcount, hresp]
    exact ⟨(if_pos ((pulse_count_eq_zero_iff _).mpr hone)).mpr ⟨rfl, rfl⟩, rfl, rfl, rfl, frame⟩
  · rw [hcount, hresp]
    exact ⟨(if_neg (mt (pulse_count_eq_zero_iff _).mp hne)).mpr ⟨rfl, pulse_count_toNat _⟩, rfl, rfl, rfl, frame⟩

/-! ### The tick of the selected voice (R156, R163) -/

/-- A `TICK` completes, and its sound side is the selected voice's tick. -/
theorem exec_tick_sound (s : State) : ∃ t, exec .tick s = .next t ∧ SameVoiceState (tickVoice s) t :=
  ⟨_, exec_tick s, tick_sameVoiceState s⟩

/-- Where the selected voice's tick ends in a write of counters, what the `TICK` leaves on the sound side. -/
theorem exec_tick_writes {s u : State} {v : VoiceId} {x : Voice} (h : tickVoice s = u.setVoice v x) :
    ∃ t, exec .tick s = .next t ∧ t.voice v = x ∧ SameNoise u t ∧ t.snd = u.snd := by
  obtain ⟨t, ht, hsound⟩ := exec_tick_sound s
  rw [h] at hsound
  have hvoice := hsound.voice v
  obtain ⟨-, -, hnoise, hsnd⟩ := hsound
  exact ⟨t, ht, hvoice.trans (State.setVoice_voice_same u v x), hnoise, hsnd⟩

section Selected
variable {s : State}

theorem tickVoice_unselected (h : s.sel = none) : tickVoice s = s := by rw [tickVoice, h]
theorem tickVoice_bass (h : s.sel = some .bass) : tickVoice s = tickBass s := by rw [tickVoice, h]
theorem tickVoice_snare (h : s.sel = some .snare) : tickVoice s = tickSnare s := by rw [tickVoice, h]
theorem tickVoice_buzz (h : s.sel = some .buzz) : tickVoice s = tickBuzz s := by rw [tickVoice, h]
theorem tickVoice_hihat (h : s.sel = some .hihat) : tickVoice s = tickHihat s := by rw [tickVoice, h]

end Selected

/-! ### The ticks' cases (R158 to R161) -/

section Cases
variable {s : State}

theorem tickBass_spent (h : bassTotal s.cfg ≤ (s.voice .bass).phase.toNat) : tickBass s = s := if_pos h

/-- The bass before its total; the attack burst on the first tick only (R158). -/
theorem tickBass_sounding (h : ¬ bassTotal s.cfg ≤ (s.voice .bass).phase.toNat) :
    tickBass s =
      (toggleIf (dividerFires (s.voice .bass).divider (bassPeriodAt s.cfg (s.voice .bass).phase.toNat))
        (if (s.voice .bass).phase = 0 then noiseToggle s else s)).setVoice .bass
        { phase := (s.voice .bass).phase + 1
          period := bassPeriodAt s.cfg (s.voice .bass).phase.toNat
          divider := dividerNext (s.voice .bass).divider (bassPeriodAt s.cfg (s.voice .bass).phase.toNat) } :=
  if_neg h

theorem tickSnare_spent (h : snareTotal s.cfg ≤ (s.voice .snare).phase.toNat) : tickSnare s = s := if_pos h

/-- The snare's phase 1: noise and resonance (R159). -/
theorem tickSnare_phase1 (h : ¬ snareTotal s.cfg ≤ (s.voice .snare).phase.toNat)
    (h1 : (s.voice .snare).phase.toNat < s.cfg.snareP1Ticks.toNat) :
    tickSnare s =
      (toggleIf (dividerFires (s.voice .snare).divider (s.voice .snare).period) (noiseToggle s)).setVoice .snare
        { s.voice .snare with
          phase := (s.voice .snare).phase + 1
          divider := dividerNext (s.voice .snare).divider (s.voice .snare).period } :=
  (if_neg h).trans (if_pos h1)

/-- The snare's phase 2: noise alone, the divider frozen (R159). -/
theorem tickSnare_phase2 (h : ¬ snareTotal s.cfg ≤ (s.voice .snare).phase.toNat)
    (h1 : ¬ (s.voice .snare).phase.toNat < s.cfg.snareP1Ticks.toNat) :
    tickSnare s = (noiseToggle s).setVoice .snare { s.voice .snare with phase := (s.voice .snare).phase + 1 } :=
  (if_neg h).trans (if_neg h1)

theorem tickHihat_spent (h : s.cfg.hihatTicks.toNat ≤ (s.voice .hihat).phase.toNat) : tickHihat s = s := if_pos h

theorem tickHihat_sounding (h : ¬ s.cfg.hihatTicks.toNat ≤ (s.voice .hihat).phase.toNat) :
    tickHihat s =
      ({ advanceNoise s with snd := noiseBit s }).setVoice .hihat
        { s.voice .hihat with phase := (s.voice .hihat).phase + 1 } :=
  if_neg h

end Cases

/-- Settles O24: the tick of a spent bass, snare or hi-hat returns the state as it is. -/
theorem spentVoiceIsSilent : Obligations.SpentVoiceIsSilent := by
  intro s hspent
  have hsilent : tickVoice s = s := by
    obtain ⟨hsel, hend⟩ | ⟨hsel, hend⟩ | ⟨hsel, hend⟩ := hspent
    · exact (tickVoice_bass hsel).trans (tickBass_spent hend)
    · exact (tickVoice_snare hsel).trans (tickSnare_spent hend)
    · exact (tickVoice_hihat hsel).trans (tickHihat_spent hend)
  simpa only [hsilent] using exec_tick_sound s

/-- Settles O19: a spent bass is silent; before its total the burst falls on the first tick, the divider's toggle on any. -/
theorem tickAdvancesBass : Obligations.TickAdvancesBass := by
  intro s hsel
  by_cases spent : bassTotal s.cfg ≤ (s.voice .bass).phase.toNat
  · obtain ⟨t, ht, hsilent⟩ := spentVoiceIsSilent s (.inl ⟨hsel, spent⟩)
    exact ⟨t, ht, (if_pos spent).mpr hsilent⟩
  · obtain ⟨t, ht, hvoice, ⟨h1, h2⟩, hsnd⟩ := exec_tick_writes ((tickVoice_bass hsel).trans (tickBass_sounding spent))
    refine ⟨t, ht, (if_neg spent).mpr ⟨hvoice, ?_⟩⟩
    split_ifs at h1 h2 hsnd ⊢
    · exact ⟨h1, h2, hsnd⟩
    · exact ⟨⟨h1, h2⟩, hsnd⟩

/-- Settles O20: a spent snare is silent; before its total every tick draws a noise bit, and the divider counts in phase 1
only. -/
theorem tickAdvancesSnare : Obligations.TickAdvancesSnare := by
  intro s hsel
  by_cases spent : snareTotal s.cfg ≤ (s.voice .snare).phase.toNat
  · obtain ⟨t, ht, hsilent⟩ := spentVoiceIsSilent s (.inr (.inl ⟨hsel, spent⟩))
    exact ⟨t, ht, (if_pos spent).mpr hsilent⟩
  by_cases one : (s.voice .snare).phase.toNat < s.cfg.snareP1Ticks.toNat
  · obtain ⟨t, ht, hvoice, ⟨h1, h2⟩, hsnd⟩ :=
      exec_tick_writes ((tickVoice_snare hsel).trans (tickSnare_phase1 spent one))
    refine ⟨t, ht, (if_neg spent).mpr ?_⟩
    rw [if_pos one, hvoice]
    exact ⟨h1, h2, rfl, rfl, rfl, hsnd⟩
  · obtain ⟨t, ht, hvoice, ⟨h1, h2⟩, hsnd⟩ :=
      exec_tick_writes ((tickVoice_snare hsel).trans (tickSnare_phase2 spent one))
    refine ⟨t, ht, (if_neg spent).mpr ?_⟩
    rw [if_neg one, hvoice]
    exact ⟨h1, h2, rfl, rfl, rfl, hsnd⟩

/-- Settles O21: the buzz has one case, its divider's toggle, at every phase. -/
theorem tickAdvancesBuzz : Obligations.TickAdvancesBuzz := by
  intro s hsel
  obtain ⟨t, ht, hvoice, hnoise, hsnd⟩ := exec_tick_writes (tickVoice_buzz hsel)
  refine ⟨t, ht, hnoise, ?_⟩
  rw [hvoice]
  exact ⟨rfl, rfl, rfl, hsnd⟩

/-- Settles O22: a spent hi-hat is silent; before `HIHAT_TICKS` the line takes the noise bit. -/
theorem tickAdvancesHihat : Obligations.TickAdvancesHihat := by
  intro s hsel
  by_cases spent : s.cfg.hihatTicks.toNat ≤ (s.voice .hihat).phase.toNat
  · obtain ⟨t, ht, hsilent⟩ := spentVoiceIsSilent s (.inr (.inr ⟨hsel, spent⟩))
    exact ⟨t, ht, (if_pos spent).mpr hsilent⟩
  · obtain ⟨t, ht, hvoice, ⟨h1, h2⟩, hsnd⟩ := exec_tick_writes ((tickVoice_hihat hsel).trans (tickHihat_sounding spent))
    exact ⟨t, ht, (if_neg spent).mpr ⟨hsnd, h1, h2, hvoice⟩⟩

/-! ### One writer of the line (R163) -/

/-- No `CYCLE` writes the line, stale or in any mode. -/
theorem exec_cycle_snd {s t : State} (ht : exec .cycle s = .next t) : t.snd = s.snd := by
  obtain ⟨-, rfl⟩ | ⟨hf, -⟩ := exec_cycle_cases ht
  · rfl
  · cases hm : s.mode with
    | seed =>
      obtain rfl := Host.Outcome.next.inj ((exec_cycle_seed hm hf).symm.trans ht)
      rfl
    | cal =>
      by_cases hr : (s.calRounds + 1).toNat = s.cfg.constants.calRounds
      · obtain rfl := Host.Outcome.next.inj ((exec_cycle_cal_last hm hf hr).symm.trans ht)
        rfl
      · obtain rfl := Host.Outcome.next.inj ((exec_cycle_cal_round hm hf hr).symm.trans ht)
        rfl
    | run =>
      obtain ⟨-, -, hsnd, -⟩ := (RunPost.of_exec hm hf ht).frame
      exact hsnd

theorem exec_snd_of_ne_tick {c : Instr} {s t : State} (ht : exec c s = .next t) (hc : c ≠ .tick) : t.snd = s.snd := by
  cases c with
  | tick => exact absurd rfl hc
  | cycle => exact exec_cycle_snd ht
  | nop | meas | trig | noise =>
    obtain rfl := Host.Outcome.next.inj ht
    rfl

/-- Writes to two voices commute. `u'` need not be written as `u.setVoice v x`: in a tick, updates of other fields stand
between the two writes. -/
theorem setVoice_setVoice_comm {u u' : State} {v w : VoiceId} {x y : Voice} (hu : u' = u.setVoice v x) (h : w ≠ v) :
    u'.setVoice w y = (u.setVoice w y).setVoice v x := by
  have hq := Quad.set_set_comm u.voices v.idx w.idx x y fun e => h (VoiceId.idx_injective e)
  exact hu ▸ congrArg (fun q => { u with voices := q }) hq

/-- The selected voice's tick neither reads nor writes the counters of another voice. -/
theorem tickVoice_setVoice_ne (s : State) (v : VoiceId) (x : Voice) (h : s.sel ≠ some v) :
    tickVoice (s.setVoice v x) = (tickVoice s).setVoice v x := by
  cases hsel : s.sel with
  | none => simp only [tickVoice, State.setVoice_sel, hsel]
  | some w =>
    have hw : w ≠ v := fun e => h (e ▸ hsel)
    have hread : (s.setVoice v x).voice w = s.voice w := State.setVoice_voice_ne s v w x hw
    cases w with
    | bass =>
      simp only [tickVoice, State.setVoice_sel, hsel, tickBass, hread, State.setVoice_cfg]
      split_ifs
      exacts [rfl, setVoice_setVoice_comm rfl hw, setVoice_setVoice_comm rfl hw]
    | snare =>
      simp only [tickVoice, State.setVoice_sel, hsel, tickSnare, hread, State.setVoice_cfg]
      split_ifs
      exacts [rfl, setVoice_setVoice_comm rfl hw, setVoice_setVoice_comm rfl hw]
    | buzz =>
      simp only [tickVoice, State.setVoice_sel, hsel, tickBuzz, hread]
      exact setVoice_setVoice_comm rfl hw
    | hihat =>
      simp only [tickVoice, State.setVoice_sel, hsel, tickHihat, hread, State.setVoice_cfg]
      split_ifs
      exacts [rfl, setVoice_setVoice_comm rfl hw]

/-- Settles O23: no other command writes the line; a `TICK` is the selected voice's tick, which commutes with a write to the
counters of any other voice. -/
theorem onlySelectedVoiceMoves : Obligations.OnlySelectedVoiceMoves := by
  refine ⟨fun c s t => exec_snd_of_ne_tick, fun s => ?tick⟩
  obtain ⟨t, ht, hsound⟩ := exec_tick_sound s
  refine ⟨t, ht, fun v hv => ?others, fun hsel => ?unselected, fun v x hv => ?independent⟩
  case others => rw [hsound.voice v, tickVoice_voice_ne s v hv]
  case unselected => rwa [tickVoice_unselected hsel] at hsound
  case independent =>
    obtain ⟨u, hu, -, -, -, husnd⟩ := exec_tick_sound (s.setVoice v x)
    obtain ⟨-, -, -, htsnd⟩ := hsound
    exact ⟨u, hu, by rw [husnd, htsnd, tickVoice_setVoice_ne s v x hv, State.setVoice_snd]⟩

end Voices
end Sys2Proof.Proofs

namespace Sys2Proof.Proofs
section Noise
/-! `NOP` and `NOISE` (spec/43_noise.md R180 to R185). -/

open Sys2Proof.Machine

theorem exec_nop (s : State) : exec .nop s = .next (s.respond Response.quiet) := rfl

theorem exec_noise (s : State) :
    exec .noise s = .next ((advanceNoise s).respond { Response.quiet with nbit := noiseBit s }) := rfl

/-- Settles O14: the zero word is the word of `NOP`, whose arm writes the response only. -/
theorem nopChangesNothing : Obligations.NopChangesNothing :=
  ⟨decode_eq_ok_iff.mpr rfl, exec_nop⟩

/-- A draw writes the two registers and nothing else (R180, R183). -/
theorem advanceNoise_frame (s : State) :
    (advanceNoise s).pads = s.pads ∧ SameEnv s (advanceNoise s) ∧ SameKeyState s (advanceNoise s)
      ∧ SameErrors s (advanceNoise s) ∧ (advanceNoise s).sel = s.sel ∧ (advanceNoise s).voices = s.voices
      ∧ (advanceNoise s).snd = s.snd ∧ (advanceNoise s).pulseCounter = s.pulseCounter :=
  ⟨rfl, ⟨rfl, rfl⟩, ⟨rfl, rfl, rfl, rfl, rfl, rfl, rfl⟩, ⟨rfl, rfl⟩, rfl, rfl, rfl, rfl⟩

/-- Settles O16: in each register the bits move up by one and the feedback, the exclusive or of the source's taps, enters at
bit 0; the first register's feedback is also the response. -/
theorem noiseShiftsBothRegisters : Obligations.NoiseShiftsBothRegisters := by
  intro s hk
  have fb1 : feedback s.cfg.constants.lfsr1Taps s.lfsr1
      = (s.lfsr1[15] ^^ s.lfsr1[14] ^^ s.lfsr1[12] ^^ s.lfsr1[4]) := by
    rw [hk]; exact feedback_lfsr1 s.lfsr1
  have fb2 : feedback s.cfg.constants.lfsr2Taps s.lfsr2 = (s.lfsr2[14] ^^ s.lfsr2[13]) := by
    rw [hk]; exact feedback_lfsr2 s.lfsr2
  refine ⟨_, exec_noise s, ⟨fun k => ?up1, ?low1, fun k => ?up2, ?low2, ?resp⟩, advanceNoise_frame s⟩
  case up1 => exact lfsr1Next_bit_succ _ s.lfsr1 k
  case low1 => exact (lfsr1Next_bit_zero _ s.lfsr1).trans fb1
  case up2 => exact lfsr2Next_bit_succ _ s.lfsr2 k
  case low2 => exact (lfsr2Next_bit_zero _ s.lfsr2).trans fb2
  case resp => exact congrArg (fun b => { Response.quiet with nbit := b }) ((noiseBit_eq s).trans fb1)

end Noise
end Sys2Proof.Proofs

namespace Sys2Proof.Proofs
section RoundTrip
/-! The two round trips of the encoding (spec/30_encoding.md sections 1 to 4): both are the one fact that a word decodes to a
command exactly when it is the command's word (`decode_eq_ok_iff`). -/

open Sys2Proof.Machine

/-- Settles O1: a command's word is its word. -/
theorem decodeOfEncode : Obligations.DecodeOfEncode := fun _ => decode_eq_ok_iff.mpr rfl

/-- Settles O2: a word that decodes to a command is the command's word. -/
theorem encodeOfDecode : Obligations.EncodeOfDecode := fun _ _ h => (decode_eq_ok_iff.mp h).symm

/-- Settles O5: each written word is the one the encoder gives. -/
theorem writtenWordsDecode : Obligations.WrittenWordsDecode := by
  refine ⟨decode_eq_ok_iff.mpr ?_, decode_eq_ok_iff.mpr ?_, decode_eq_ok_iff.mpr ?_, decode_eq_ok_iff.mpr ?_,
    decode_eq_ok_iff.mpr ?_, decode_eq_ok_iff.mpr ?_⟩
  all_goals decide

end RoundTrip
end Sys2Proof.Proofs

namespace Sys2Proof.Proofs
section Commands
/-! What a command can do, said once for all six: it completes, a command other than `CYCLE` has one frame
(`exec_frame_of_ne_cycle`), and a `CYCLE` is one of five cases (`CycleCase`). The rules about the whole machine are read from
these. -/

open Sys2Proof.Machine

/-- No command faults or is refused, in any state. -/
theorem exec_completes (i : Instr) (s : State) : ∃ t, exec i s = .next t := by
  cases i <;> exact ⟨_, rfl⟩

theorem samePadButReading_refl (p : Pad) : SamePadButReading p p := ⟨rfl, rfl, rfl, rfl, rfl⟩

/-- What a command other than `CYCLE` leaves unchanged (10_state.md section 8). -/
theorem exec_frame_of_ne_cycle {i : Instr} {s t : State} (hi : i ≠ .cycle) (ht : exec i s = .next t) :
    SameEnv s t ∧ SameKeyState s t ∧ SameErrors s t ∧ ∀ q, SamePadButReading (s.pad q) (t.pad q) := by
  cases i with
  | cycle => exact absurd rfl hi
  | meas p a b =>
    obtain ⟨u, hu, -, -, hpad, hothers, henv, hkey, -, -, herr, -⟩ := measWritesHalfTheSum s p a b
    obtain rfl := Host.Outcome.next.inj (hu.symm.trans ht)
    refine ⟨henv, hkey, herr, fun q => ?_⟩
    by_cases hq : q = p
    · exact hq ▸ hpad
    · rw [hothers q hq]
      exact samePadButReading_refl _
  | tick =>
    obtain rfl := Host.Outcome.next.inj ht
    obtain ⟨-, henv, hkey, herr, -⟩ := tick_frame s
    refine ⟨henv, hkey, herr, fun q => ?_⟩
    rw [countPulse_pad, tickVoice_pad, State.respond_pad]
    exact samePadButReading_refl _
  | nop | trig | noise =>
    obtain rfl := Host.Outcome.next.inj ht
    exact ⟨⟨rfl, rfl⟩, ⟨rfl, rfl, rfl, rfl, rfl, rfl, rfl⟩, ⟨rfl, rfl⟩, fun _ => samePadButReading_refl _⟩

/-- No command but `MEAS` and `CYCLE` touches a pad. -/
theorem exec_pads_of_ne_meas {i : Instr} {s t : State} (hi : i ≠ .cycle) (hmeas : ∀ p a b, i ≠ .meas p a b)
    (ht : exec i s = .next t) : t.pads = s.pads := by
  cases i with
  | cycle => exact absurd rfl hi
  | meas p a b => exact absurd rfl (hmeas p a b)
  | tick =>
    obtain rfl := Host.Outcome.next.inj ht
    obtain ⟨hpads, -⟩ := tick_frame s
    exact hpads
  | nop | trig | noise =>
    obtain rfl := Host.Outcome.next.inj ht
    rfl

/-- Settles O42: the frame of a command other than `CYCLE`, and the pads of one that is not `MEAS` either. -/
theorem onlyCycleMovesKeyState : Obligations.OnlyCycleMovesKeyState := by
  intro i s t ht hi
  obtain ⟨-, hkey, -, hpads⟩ := exec_frame_of_ne_cycle hi ht
  exact ⟨hkey, hpads, fun hmeas => exec_pads_of_ne_meas hi hmeas ht⟩

/-! ### The cases of a `CYCLE` (R106) -/

/-- What a `CYCLE` can do: it is stale, or runs the rule of its mode, which in CAL has a last round. -/
inductive CycleCase (s t : State) : Prop
  | stale (hf : ¬ Fresh s) (ht : t = flagStale (s.respond Response.quiet))
  | seed (hf : Fresh s) (hm : s.mode = .seed) (ht : t = calibrationUpdate seedPad .cal 0 s)
  | round (hf : Fresh s) (hm : s.mode = .cal) (hr : (s.calRounds + 1).toNat ≠ s.cfg.constants.calRounds)
      (ht : t = calibrationUpdate roundPad s.mode (s.calRounds + 1) s)
  | last (hf : Fresh s) (hm : s.mode = .cal) (hr : (s.calRounds + 1).toNat = s.cfg.constants.calRounds)
      (ht : t = calibrationUpdate lastRoundPad .run (s.calRounds + 1) s)
  | run (hf : Fresh s) (hm : s.mode = .run) (post : RunPost s t)

theorem cycle_cases {s t : State} (ht : exec .cycle s = .next t) : CycleCase s t := by
  obtain ⟨hf, hstale⟩ | ⟨hf, -⟩ := exec_cycle_cases ht
  · exact .stale hf hstale
  · cases hm : s.mode with
    | seed => exact .seed hf hm (Host.Outcome.next.inj (ht.symm.trans (exec_cycle_seed hm hf)))
    | cal =>
      by_cases hr : (s.calRounds + 1).toNat = s.cfg.constants.calRounds
      · exact .last hf hm hr (Host.Outcome.next.inj (ht.symm.trans (exec_cycle_cal_last hm hf hr)))
      · exact .round hf hm hr (Host.Outcome.next.inj (ht.symm.trans (exec_cycle_cal_round hm hf hr)))
    | run => exact .run hf hm (RunPost.of_exec hm hf ht)

/-- What no `CYCLE` writes: the environment, the line, the noise registers, the pulse counter and `err_illegal`. -/
theorem exec_cycle_frame {s t : State} (ht : exec .cycle s = .next t) :
    SameEnv s t ∧ t.snd = s.snd ∧ SameNoise s t ∧ t.pulseCounter = s.pulseCounter ∧ t.errIllegal = s.errIllegal := by
  cases cycle_cases ht with
  | run _ _ post =>
    obtain ⟨-, -, hsnd, hnoise, hpulse, ⟨hillegal, -⟩, henv, -⟩ := post.frame
    exact ⟨henv, hsnd, hnoise, hpulse, hillegal⟩
  | stale _ ht | seed _ _ ht | round _ _ _ ht | last _ _ _ ht =>
    rw [ht]
    exact ⟨⟨rfl, rfl⟩, rfl, ⟨rfl, rfl⟩, rfl, rfl⟩

/-- A `CYCLE` with four fresh measurements leaves `err_stale` (R31). -/
theorem exec_cycle_errStale {s t : State} (hf : Fresh s) (ht : exec .cycle s = .next t) : t.errStale = s.errStale := by
  cases cycle_cases ht with
  | stale hstale => exact absurd hf hstale
  | run _ _ post =>
    obtain ⟨-, -, -, -, -, ⟨-, hstale⟩, -⟩ := post.frame
    exact hstale
  | seed _ _ ht | round _ _ _ ht | last _ _ _ ht => rw [ht]; rfl

/-- A `CYCLE` that triggers no voice leaves the selector and the voices. -/
theorem exec_cycle_voices {s t : State} (ht : exec .cycle s = .next t) (hev : t.resp.evTrig = none) :
    t.sel = s.sel ∧ t.voices = s.voices := by
  cases cycle_cases ht with
  | run _ _ post =>
    obtain ⟨k, -, htrig, -⟩ | ⟨-, -, hsel, hvoices⟩ := post.trig
    · rw [hev] at htrig
      cases htrig
    · exact ⟨hsel, hvoices⟩
  | stale _ ht | seed _ _ ht | round _ _ _ ht | last _ _ _ ht =>
    rw [ht]
    exact ⟨rfl, rfl⟩

/-- No command writes the configuration or the stream. -/
theorem exec_env {i : Instr} {s t : State} (ht : exec i s = .next t) : SameEnv s t := by
  by_cases hi : i = .cycle
  · obtain ⟨henv, -⟩ := exec_cycle_frame (hi ▸ ht)
    exact henv
  · obtain ⟨henv, -⟩ := exec_frame_of_ne_cycle hi ht
    exact henv

/-- Settles O25: a pad without a fresh measurement makes the `CYCLE` stale, and a stale `CYCLE` is `exec_cycle_stale`'s. -/
theorem staleCycleSetsFlagOnly : Obligations.StaleCycleSetsFlagOnly := by
  rintro s ⟨i, hi⟩
  exact exec_cycle_stale s fun hf => by simp [hf i] at hi

/-- Settles O36: the frame is `RunPost`'s. -/
theorem runCycleFrame : Obligations.RunCycleFrame := by
  intro s hm hf
  obtain ⟨t, ht, post⟩ := exec_cycle_run_post s hm hf
  obtain ⟨hmode, hframe⟩ := post.frame
  refine ⟨t, ht, fun i => ?pads, hmode.trans hm, hframe⟩
  obtain ⟨-, -, -, hpad⟩ := post.pad i
  exact hpad

/-! ### The lifecycle and the backup (R25, R110) -/

/-- With the source's constants the last round is the one after fourteen. -/
theorem calRounds_last_iff {s : State} (hk : s.cfg.constants = Constants.source) :
    (s.calRounds + 1).toNat = s.cfg.constants.calRounds ↔ s.calRounds.toNat = 14 := by
  have hrounds : s.cfg.constants.calRounds = 15 := congrArg Constants.calRounds hk
  rw [hrounds]
  bv_omega

/-- Settles O40: the row of R110's table that each case of a `CYCLE` runs; no other command moves the key state. -/
theorem lifecycleNeverGoesBack : Obligations.LifecycleNeverGoesBack := by
  refine ⟨fun i s t ht hi => ?others, fun s t hk ht => ⟨fun hstale => ?stale, fun hf hm => ?seed, fun hf hm hr => ?round,
    fun hf hm hr => ?last, fun hf hm => ?run⟩⟩
  case others =>
    obtain ⟨-, ⟨hmode, hrounds, -⟩, -⟩ := exec_frame_of_ne_cycle hi ht
    exact ⟨hmode, hrounds⟩
  case stale =>
    obtain rfl := Host.Outcome.next.inj ((exec_cycle_stale s hstale).symm.trans ht)
    exact ⟨rfl, rfl⟩
  case seed =>
    obtain rfl := Host.Outcome.next.inj ((exec_cycle_seed hm hf).symm.trans ht)
    exact ⟨rfl, rfl⟩
  case round =>
    have hnot : ¬ s.calRounds.toNat = 14 := by omega
    obtain rfl := Host.Outcome.next.inj ((exec_cycle_cal_round hm hf (mt (calRounds_last_iff hk).mp hnot)).symm.trans ht)
    exact ⟨hm, calRounds_succ_toNat (by omega)⟩
  case last =>
    obtain rfl := Host.Outcome.next.inj ((exec_cycle_cal_last hm hf ((calRounds_last_iff hk).mpr hr)).symm.trans ht)
    exact ⟨rfl, fun i => by rw [calibrationUpdate_pad]; rfl⟩
  case run =>
    obtain ⟨hmode, hrounds, -⟩ := (RunPost.of_exec hm hf ht).frame
    exact ⟨hmode.trans hm, hrounds⟩

/-- Settles O41: of the cases of a `CYCLE` only the last round writes a backup, and no other command does. -/
theorem backupWrittenOnlyByLastRound : Obligations.BackupWrittenOnlyByLastRound := by
  rintro i s t hk ht ⟨p, hp⟩
  by_cases hi : i = .cycle
  · subst hi
    cases cycle_cases ht with
    | last hf hm hr hlast => exact ⟨rfl, hf, hm, (calRounds_last_iff hk).mp hr, hlast ▸ rfl⟩
    | stale _ hstale => exact absurd (by rw [hstale]; rfl) hp
    | seed _ _ hseed => exact absurd (by rw [hseed, calibrationUpdate_pad]; rfl) hp
    | round _ _ _ hround => exact absurd (by rw [hround, calibrationUpdate_pad]; rfl) hp
    | run _ _ post =>
      obtain ⟨-, -, -, -, hbackup, -⟩ := post.pad p
      exact absurd hbackup hp
  · obtain ⟨-, -, -, hpads⟩ := exec_frame_of_ne_cycle hi ht
    obtain ⟨-, -, hbackup, -⟩ := hpads p
    exact absurd hbackup hp

/-! ### The step (R65, R192) -/

/-- A presented command is run by `exec`. -/
theorem runInput_command {w : CmdWord} {i : Instr} (h : decode w = .ok i) (s : State) :
    runInput (commandInput w) s = exec i s := by
  simp [runInput, commandInput, h]

/-- Settles O6: the step takes the input, and the input is a command. -/
theorem stepRunsDecodedCommand : Obligations.StepRunsDecodedCommand := fun _ _ _ _ hc hi hd =>
  (step_of_input hc hi).trans (runInput_command hd _)

theorem step_of_no_input {s : State} (hc : s.cfg.ok = true) (hi : s.inputs = []) : step s = .next (idleEdge s) := by
  simp only [step, hc, hi]

/-- Settles O9: both edges without a command are `idleEdge`. -/
theorem idleEdgeHoldsState : Obligations.IdleEdgeHoldsState := fun _ _ _ hc =>
  ⟨step_of_no_input hc, step_of_input hc⟩

/-- An input of any kind is finished in one step. -/
theorem runInput_completes (inp : PortInput) (s : State) : ∃ t, runInput inp s = .next t := by
  unfold runInput
  split_ifs
  · exact ⟨_, rfl⟩
  · split
    · exact exec_completes _ s
    · exact ⟨_, rfl⟩
  · exact ⟨_, rfl⟩

/-- Settles O12: a step finds no input, or runs one to its end. -/
theorem stepAlwaysCompletes : Obligations.StepAlwaysCompletes := by
  intro s hc
  cases hi : s.inputs with
  | nil => exact ⟨_, step_of_no_input hc hi⟩
  | cons inp rest =>
    rw [step_of_input hc hi]
    exact runInput_completes inp _

/-- What every step keeps: whatever taking an input, driving the response, flagging, reset and every command keep. -/
theorem step_keeps {P : State → Prop} (htake : ∀ s rest, P s → P (takeInput rest s))
    (hrespond : ∀ s r, P s → P (s.respond r)) (hflag : ∀ s, P s → P (flagIllegal s))
    (hreset : ∀ s, P s → P (resetBlock s)) (hexec : ∀ i s t, P s → exec i s = .next t → P t)
    {s t : State} (hs : P s) (h : step s = .next t) : P t := by
  obtain ⟨-, ⟨-, rfl⟩ | ⟨inp, rest, -, hrun⟩⟩ := step_cases h
  · exact hrespond _ _ hs
  · have hu := htake s rest hs
    obtain ⟨-, rfl⟩ | ⟨-, -, ⟨i, -, hi⟩ | ⟨-, rfl⟩⟩ | ⟨-, -, rfl⟩ := runInput_cases hrun
    · exact hreset _ hu
    · exact hexec i _ _ hu hi
    · exact hflag _ (hrespond _ _ hu)
    · exact hrespond _ _ hu

/-- Settles O13: no update of a step writes the configuration, and no command does. -/
theorem configurationIsConstant : Obligations.ConfigurationIsConstant := by
  intro s t h
  refine step_keeps (P := fun u => u.cfg = s.cfg) ?take ?respond ?flag ?reset ?command rfl h
  case take | respond | flag | reset => intros; assumption
  case command =>
    intro i u v hu hv
    obtain ⟨hcfg, -⟩ := exec_env hv
    exact hcfg.trans hu

/-- A command leaves both error flags, or is a stale `CYCLE`. -/
theorem exec_errors {i : Instr} {s t : State} (ht : exec i s = .next t) :
    SameErrors s t ∨ t = flagStale (s.respond Response.quiet) := by
  by_cases hi : i = .cycle
  · subst hi
    obtain ⟨-, hstale⟩ | ⟨hf, -⟩ := exec_cycle_cases ht
    · exact .inr hstale
    · obtain ⟨-, -, -, -, hillegal⟩ := exec_cycle_frame ht
      exact .inl ⟨hillegal, exec_cycle_errStale hf ht⟩
  · obtain ⟨-, -, herr, -⟩ := exec_frame_of_ne_cycle hi ht
    exact .inl herr

/-- What a step without reset does to the error flags. -/
theorem step_errors {s t : State} (h : step s = .next t) (hrst : ∀ inp rest, s.inputs = inp :: rest → inp.rst = false) :
    SameErrors s t
      ∨ (∃ rest, t = { s with inputs := rest, resp := Response.quiet, errIllegal := true })
      ∨ ∃ rest, t = { s with inputs := rest, resp := Response.quiet, errStale := true } := by
  obtain ⟨-, ⟨-, rfl⟩ | ⟨inp, rest, hi, hrun⟩⟩ := step_cases h
  · exact .inl ⟨rfl, rfl⟩
  · obtain ⟨hreset, -⟩ | ⟨-, -, ⟨i, -, hexec⟩ | ⟨-, rfl⟩⟩ | ⟨-, -, rfl⟩ := runInput_cases hrun
    · simp [hrst inp rest hi] at hreset
    · obtain herr | hstale := exec_errors hexec
      · exact .inl herr
      · exact .inr (.inr ⟨rest, hstale⟩)
    · exact .inr (.inl ⟨rest, rfl⟩)
    · exact .inl ⟨rfl, rfl⟩

/-- Settles O43: a step leaves both flags, or sets one and writes nothing else but the stream and the response. -/
theorem errorFlagsAreSticky : Obligations.ErrorFlagsAreSticky := by
  intro s t h hrst
  obtain ⟨hillegal, hstale⟩ | ⟨rest, rfl⟩ | ⟨rest, rfl⟩ := step_errors h hrst
  · exact ⟨fun hset => hillegal.trans hset, fun hset => hstale.trans hset, fun hne => absurd hillegal.symm hne,
      fun hne => absurd hstale.symm hne⟩
  · exact ⟨fun _ => rfl, id, fun _ => ⟨rest, rfl⟩, fun hne => absurd rfl hne⟩
  · exact ⟨id, fun _ => rfl, fun hne => absurd rfl hne, fun _ => ⟨rest, rfl⟩⟩

end Commands
end Sys2Proof.Proofs

namespace Sys2Proof.Proofs
section ThresholdAndDrift
/-! What follows from `RunPost` about the threshold, the drift and the stuck key
(spec/41_cycle_tracker_threshold_key.md section 8). -/

open Sys2Proof.Machine

/-- A RUN cycle leaves every delta in the range of R24. -/
theorem runCycle_delta_range {s t : State} (post : RunPost s t) (i : PadIdx) :
    0 ≤ (t.pad i).delta.toInt ∧ (t.pad i).delta.toInt ≤ 65535 := by
  rw [runCycle_delta_eq post]
  exact judgePads_delta_range s i

/-- In an Idle cycle no delta is above the threshold at entry. -/
theorem runCycle_delta_le_of_idle {s t : State} (post : RunPost s t) (hkey : t.activeKey = none) (i : PadIdx) :
    (t.pad i).delta.toInt ≤ s.threshold.toNat := by
  have hlast := post.last
  rw [hkey] at hlast
  rw [← not_lt, ← runCycle_pressed_iff post i, Bool.not_eq_true]
  exact hlast i

/-- Where a cycle without recovery takes the threshold (R124, R125): up to the mean with a quarter of the active pad's delta,
to the mean with half the delta of the first pad above 30, or nowhere. -/
theorem runCycle_threshold_cases {s t : State} (post : RunPost s t) (hk : s.cfg.constants = Constants.source)
    (hr : t.resp.evRecover = false) :
    (∃ a, t.activeKey = some a ∧ (s.threshold.toNat : Int) < (t.pad a).delta.toInt / 4
        ∧ (t.threshold.toNat : Int) = ((t.pad a).delta.toInt / 4 + s.threshold.toNat) / 2)
      ∨ (t.activeKey = none ∧ ∃ i, 30 < (t.pad i).delta.toInt ∧ (∀ j, j < i → (t.pad j).delta.toInt ≤ 30)
        ∧ (t.threshold.toNat : Int) = ((t.pad i).delta.toInt / 2 + s.threshold.toNat) / 2)
      ∨ t.threshold = s.threshold := by
  have hthr := runCycle_threshold_adapted post hr
  simp only [runCycle_delta_eq post]
  cases hkey : t.activeKey with
  | some a =>
    have hpressed := adaptThreshold_pressed s.threshold a (judgePads s) hk (judgePads_delta_range s a) rfl
    rw [hkey] at hthr
    rw [← hthr] at hpressed
    by_cases hlt : (s.threshold.toNat : Int) < ((judgePads s).pad a).delta.toInt / 4
    · exact .inl ⟨a, rfl, hlt, hpressed.trans (if_pos hlt)⟩
    · exact .inr (.inr (BitVec.eq_of_toNat_eq (by exact_mod_cast hpressed.trans (if_neg hlt))))
  | none =>
    rw [hkey] at hthr
    obtain ⟨i, hi, hfirst, hvalue⟩ | ⟨-, hsame⟩ :=
      adaptThreshold_idle s.threshold (judgePads s) hk (judgePads_delta_range s)
    · exact .inr (.inl ⟨rfl, i, hi, hfirst, hthr ▸ hvalue⟩)
    · exact .inr (.inr (by rw [hthr, hsame]; rfl))

/-- Settles O37: a mean of the old threshold and its target lies between them; in an Idle cycle the target is below, since no
delta is above the threshold. -/
theorem thresholdMovesTowardTarget : Obligations.ThresholdMovesTowardTarget := by
  intro s t hk hm hf ht hr
  have post := RunPost.of_exec hm hf ht
  obtain ⟨a, hkey, hlt, hvalue⟩ | ⟨hkey, i, hi, hfirst, hvalue⟩ | hsame := runCycle_threshold_cases post hk hr
  · refine ⟨fun b hb hmoved => ?_, fun hnone => by simp [hkey] at hnone⟩
    obtain rfl : a = b := Option.some.inj (hkey.symm.trans hb)
    have hne : t.threshold.toNat ≠ s.threshold.toNat := fun h => hmoved (BitVec.eq_of_toNat_eq h)
    omega
  · refine ⟨fun b hb => by simp [hkey] at hb, fun _ hmoved => ?_⟩
    have hne : t.threshold.toNat ≠ s.threshold.toNat := fun h => hmoved (BitVec.eq_of_toNat_eq h)
    have hle := runCycle_delta_le_of_idle post hkey i
    exact ⟨by omega, i, hi, hfirst, by omega⟩
  · exact ⟨fun _ _ hmoved => absurd hsame hmoved, fun _ hmoved => absurd hsame hmoved⟩

/-- Settles O38: the snap never raises a baseline and leaves one whose reading is not below it, and the drift adds one. -/
theorem baselineRisesAtMostOne : Obligations.BaselineRisesAtMostOne := by
  intro s t hk hm hf ht hr i
  have hbase := runCycle_baseline (RunPost.of_exec hm hf ht) hk i
  have hsnap := judgePad_baseline s.threshold (s.pad i)
  simp only [hr, Bool.false_eq_true, if_false] at hbase
  refine ⟨?bound, fun hkey hreading htop => ?drift⟩
  case bound => split_ifs at hbase hsnap <;> omega
  case drift =>
    rw [if_pos hkey] at hbase
    rw [if_neg (not_lt.mpr hreading)] at hsnap
    omega

/-! ### The stuck key's time (R138) -/

/-- R7: under the source's constants `T` is at least 1. -/
theorem timeout_pos {c : Config} (h : c.ok = true) (hk : c.constants = Constants.source) : 1 ≤ 3 * c.sampleRate := by
  obtain ⟨-, hpos, -⟩ := c.ok_iff.mp h
  rwa [hk] at hpos

section StuckKey
variable {after before : Nat → State} {p : PadIdx}

/-- The hypotheses of R138: each of the cycles 1 to `T` is run under the configuration `c` from the key state the cycle
before left, and leaves `p` the active key. -/
def HeldCycles (c : Config) (after before : Nat → State) (p : PadIdx) : Prop :=
  ∀ k, k < 3 * c.sampleRate →
    SameKeyState (after k) (before k) ∧ (before k).cfg = c ∧ Fresh (before k)
      ∧ exec .cycle (before k) = .next (after (k + 1)) ∧ (after (k + 1)).activeKey = some p

/-- The state after cycle `k` of a held key, `k` < `T`. -/
def CountedDown (c : Config) (p : PadIdx) (k : Nat) (s : State) : Prop :=
  s.mode = .run ∧ s.activeKey = some p ∧ s.timeoutCounter.toNat = 3 * c.sampleRate - k

/-- The state a cycle is issued in has counted down as far, and the cycle is a RUN cycle that keeps the key. -/
theorem heldCycle_post {c : Config} (held : HeldCycles c after before p) {k : Nat} (hk : k < 3 * c.sampleRate)
    (h : CountedDown c p k (after k)) :
    CountedDown c p k (before k) ∧ RunPost (before k) (after (k + 1)) := by
  obtain ⟨⟨hmode, -, -, hkey, -, htimeout, -⟩, -, hfresh, hexec, -⟩ := held k hk
  obtain ⟨hrun, hactive, hcount⟩ := h
  exact ⟨⟨hmode.trans hrun, hkey.trans hactive, htimeout ▸ hcount⟩, RunPost.of_exec (hmode.trans hrun) hfresh hexec⟩

/-- A cycle before the last only counts down. -/
theorem heldCycle_counts {c : Config} (held : HeldCycles c after before p) {k : Nat} (hk : k + 1 < 3 * c.sampleRate)
    (h : CountedDown c p k (after k)) :
    CountedDown c p (k + 1) (after (k + 1)) ∧ (after (k + 1)).resp.evRecover = false := by
  obtain ⟨⟨hrun, hactive, hcount⟩, post⟩ := heldCycle_post held (by omega) h
  obtain ⟨-, -, -, -, hnext⟩ := held k (by omega)
  have hpressed : (before k).activeKey ≠ none := by simp [hactive]
  have hlong : (before k).timeoutCounter ≠ 1 := by bv_omega
  obtain ⟨htimeout, hrec⟩ := runCycle_hold post hpressed (hnext.trans hactive.symm) hlong
  obtain ⟨hmode, -⟩ := post.frame
  refine ⟨⟨hmode.trans hrun, hnext, ?_⟩, hrec⟩
  rw [htimeout]
  bv_omega

theorem heldCycles_countedDown {c : Config} (held : HeldCycles c after before p) (h0 : CountedDown c p 0 (after 0))
    (k : Nat) (hk : k < 3 * c.sampleRate) : CountedDown c p k (after k) := by
  induction k with
  | zero => exact h0
  | succ k ih =>
    obtain ⟨hcount, -⟩ := heldCycle_counts held hk (ih (by omega))
    exact hcount

end StuckKey

/-- Settles O39: by induction on the cycles the timeout is `T - k` after cycle `k`, so cycle `T` is issued at 1 and
recovers. -/
theorem stuckKeyTiming : Obligations.StuckKeyTiming := by
  intro after before p hok hk hm hkey htimeout hheld
  set c := (after 0).cfg
  have held : HeldCycles c after before p := hheld
  have hcount := heldCycles_countedDown held ⟨hm, hkey, htimeout⟩
  refine ⟨fun k hfirst hbefore => ?before, ?last⟩
  case before =>
    obtain ⟨k, rfl⟩ : ∃ j, k = j + 1 := ⟨k - 1, by omega⟩
    obtain ⟨⟨-, -, hleft⟩, hrec⟩ := heldCycle_counts held hbefore (hcount k (by omega))
    exact ⟨hrec, hleft⟩
  case last =>
    have hT := timeout_pos hok hk
    obtain ⟨k, hlast⟩ : ∃ k, 3 * c.sampleRate = k + 1 := ⟨3 * c.sampleRate - 1, by omega⟩
    obtain ⟨⟨-, hactive, hone⟩, post⟩ := heldCycle_post held (by omega) (hcount k (by omega))
    obtain ⟨-, hcfg, -, -, hnext⟩ := held k (by omega)
    have hpressed : (before k).activeKey ≠ none := by simp [hactive]
    have hout : (before k).timeoutCounter = 1 := BitVec.eq_of_toNat_eq (by rw [hone, hlast]; simp)
    obtain ⟨-, hrec⟩ := runCycle_stuck post hpressed (hnext.trans hactive.symm) hout
    obtain ⟨hbase, hthr, hreload, -⟩ := runCycle_recovered post hrec
    rw [hcfg] at hthr hreload
    have hT' := timeoutReload_source hok hk
    rw [hlast] at hT' ⊢
    refine ⟨hrec, hthr.trans (congrArg Constants.thresholdInit hk), hreload ▸ hT', fun i => ?_⟩
    obtain ⟨-, -, -, -, hbackup, -⟩ := post.pad i
    rw [hbase i, hbackup]

end ThresholdAndDrift
end Sys2Proof.Proofs

namespace Sys2Proof.Proofs
section PadSide
/-! The invariant of the pad side. Every command but a RUN `CYCLE` leaves what the last press decision wrote
(`SameJudgement`), so the invariant is kept by `padSideOk_of_same_judgement`; a RUN cycle is read from `RunPost`, and its one
arithmetic fact is the threshold's range (R139 (c)). -/

open Sys2Proof.Machine

/-- R28 with R107 and R108: the count of rounds in each mode. -/
def RoundsByMode : Mode → BitVec 4 → Prop
  | .seed, n => n = 0
  | .cal, n => n.toNat < 15
  | .run, n => n.toNat = 15

theorem padSideOk_roundsByMode {s : State} (h : PadSideOk s) : RoundsByMode s.mode s.calRounds := by
  cases hm : s.mode with
  | seed => exact h.roundsInSeed hm
  | cal => exact h.roundsInCal hm
  | run => exact h.roundsInRun hm

/-- Agreement of two states on what the last press decision wrote, readings, baselines and backups apart. -/
def SameJudgement (s t : State) : Prop :=
  (t.threshold = s.threshold ∧ t.activeKey = s.activeKey ∧ t.activeKeyPrev = s.activeKeyPrev
      ∧ t.timeoutCounter = s.timeoutCounter ∧ t.quietCounter = s.quietCounter)
    ∧ (∀ i, (t.pad i).pressed = (s.pad i).pressed) ∧ (∀ i, (t.pad i).pressedPrev = (s.pad i).pressedPrev)
    ∧ ∀ i, (t.pad i).delta = (s.pad i).delta

theorem padSideOk_of_same_judgement {s t : State} (h : PadSideOk s) (hcfg : t.cfg = s.cfg) (hsame : SameJudgement s t)
    (hrounds : RoundsByMode t.mode t.calRounds)
    (hidle : t.mode ≠ .run → s.mode ≠ .run ∧ ∀ i, (t.pad i).backup = (s.pad i).backup) : PadSideOk t := by
  obtain ⟨⟨hthr, hkey, hprev, htimeout, hquiet⟩, hpressed, hpressedPrev, hdelta⟩ := hsame
  exact {
    config := hcfg ▸ h.config
    constants := hcfg ▸ h.constants
    roundsInSeed := fun hm => by rwa [hm] at hrounds
    roundsInCal := fun hm => by rwa [hm] at hrounds
    roundsInRun := fun hm => by rwa [hm] at hrounds
    idleBeforeRun := fun hm => by
      obtain ⟨hbefore, hbackup⟩ := hidle hm
      simpa only [hprev, hthr, htimeout, hquiet, hpressed, hpressedPrev, hdelta, hbackup] using h.idleBeforeRun hbefore
    keyIsLast := by simpa only [hpressed, hkey] using h.keyIsLast
    prevKeyIsLast := by simpa only [hpressedPrev, hprev] using h.prevKeyIsLast
    thresholdLow := hthr ▸ h.thresholdLow
    thresholdHigh := hthr ▸ h.thresholdHigh
    timeoutHigh := by rw [htimeout, hcfg]; exact h.timeoutHigh
    timeoutLow := by rw [htimeout, hkey]; exact h.timeoutLow
    quietHigh := by rw [hquiet, hcfg]; exact h.quietHigh
    deltaRange := fun i => by rw [hdelta i]; exact h.deltaRange i }

/-- What moves neither the key state nor a pad, readings apart, keeps the invariant. -/
theorem padSideOk_of_same {s t : State} (h : PadSideOk s) (hcfg : t.cfg = s.cfg) (hkey : SameKeyState s t)
    (hpads : ∀ i, SamePadButReading (s.pad i) (t.pad i)) : PadSideOk t := by
  obtain ⟨hmode, hrounds, hjudged⟩ := hkey
  refine padSideOk_of_same_judgement h hcfg ⟨hjudged, fun i => ?pressed, fun i => ?prev, fun i => ?delta⟩ ?rounds
    fun hm => ⟨hmode ▸ hm, fun i => ?backup⟩
  case pressed | prev | delta =>
    obtain ⟨-, hdelta, -, hpressed, hprev⟩ := hpads i
    assumption
  case rounds => rw [hmode, hrounds]; exact padSideOk_roundsByMode h
  case backup =>
    obtain ⟨-, -, hbackup, -⟩ := hpads i
    exact hbackup

theorem padSideOk_of_same_pads {s t : State} (h : PadSideOk s) (hcfg : t.cfg = s.cfg) (hkey : SameKeyState s t)
    (hpads : t.pads = s.pads) : PadSideOk t :=
  padSideOk_of_same h hcfg hkey fun i => by
    rw [State.pad, State.pad, hpads]
    exact samePadButReading_refl _

/-- Settles O52: at reset no pad is pressed, and every value the invariant bounds is a literal or the source's threshold. -/
theorem resetMeetsPadSide : Obligations.ResetMeetsPadSide := fun c hok hk =>
  have hthr : (State.resetWith c).threshold = 100 := congrArg Constants.thresholdInit hk
  { config := hok
    constants := hk
    roundsInSeed := fun _ => rfl
    roundsInCal := nofun
    roundsInRun := nofun
    idleBeforeRun := fun _ => ⟨rfl, hthr, rfl, rfl, fun i => by rw [resetWith_pad]; exact ⟨rfl, rfl, rfl, rfl⟩⟩
    keyIsLast := fun i => congrArg Pad.pressed (resetWith_pad c i)
    prevKeyIsLast := fun i => congrArg Pad.pressedPrev (resetWith_pad c i)
    thresholdLow := by rw [hthr]; decide
    thresholdHigh := by rw [hthr]; decide
    timeoutHigh := Nat.zero_le _
    timeoutLow := fun hkey => absurd rfl hkey
    quietHigh := Nat.zero_le _
    deltaRange := fun i => by rw [resetWith_pad]; decide }

/-! ### A `CYCLE` before RUN -/

/-- A `CYCLE` before RUN keeps the invariant: the update of a pad leaves its last press decision, and its backup too unless
it is the last round's. -/
theorem padSideOk_calibrationUpdate {s : State} (h : PadSideOk s) (hm : s.mode ≠ .run) {f : Pad → Pad} {mode : Mode}
    {rounds : BitVec 4}
    (hf : ∀ p, (f p).pressed = p.pressed ∧ (f p).pressedPrev = p.pressedPrev ∧ (f p).delta = p.delta)
    (hrounds : RoundsByMode mode rounds) (hbackup : mode ≠ .run → ∀ p, (f p).backup = p.backup) :
    PadSideOk (calibrationUpdate f mode rounds s) := by
  have hpad := calibrationUpdate_pad f mode rounds s
  refine padSideOk_of_same_judgement h rfl ⟨⟨rfl, rfl, rfl, rfl, rfl⟩, fun i => ?pressed, fun i => ?prev, fun i => ?delta⟩
    hrounds fun hmode => ⟨hm, fun i => ?backup⟩
  case pressed | prev | delta =>
    obtain ⟨hpressed, hprev, hdelta⟩ := hf (s.pad i)
    rwa [hpad i]
  case backup =>
    rw [hpad i]
    exact hbackup hmode _

/-! ### A `CYCLE` in RUN -/

section Run
variable {s t : State} (h : PadSideOk s) (post : RunPost s t)
include h post

/-- R139 (c): the threshold stays from 23 to 16382. A quarter of a delta is at most 16383, and an idle scan's delta is above
30 and not above the threshold. -/
theorem runCycle_threshold_range : 23 ≤ t.threshold.toNat ∧ t.threshold.toNat ≤ 16382 := by
  have hlow := h.thresholdLow
  have hhigh := h.thresholdHigh
  cases hr : t.resp.evRecover with
  | true =>
    obtain ⟨-, hthr, -⟩ := runCycle_recovered post hr
    have hinit : t.threshold = 100 := hthr.trans (congrArg Constants.thresholdInit h.constants)
    rw [hinit]
    decide
  | false =>
    obtain ⟨a, -, hlt, hvalue⟩ | ⟨hkey, i, hi, -, hvalue⟩ | hsame := runCycle_threshold_cases post h.constants hr
    · obtain ⟨-, hdelta⟩ := runCycle_delta_range post a
      omega
    · have hdelta := runCycle_delta_le_of_idle post hkey i
      omega
    · rw [hsame]
      exact ⟨hlow, hhigh⟩

/-- R137: the timeout is at most `T`, and at least 1 while a key is active. -/
theorem runCycle_timeout_range :
    t.timeoutCounter.toNat ≤ 3 * s.cfg.sampleRate ∧ (t.activeKey ≠ none → 1 ≤ t.timeoutCounter.toNat) := by
  have hhigh := h.timeoutHigh
  have hreload := timeoutReload_source h.config h.constants
  have hT := timeout_pos h.config h.constants
  rw [post.timeout]
  split_ifs with hnone hheld
  · exact ⟨hhigh, fun hkey => absurd hnone hkey⟩
  · obtain ⟨hsame, hlong⟩ := hheld
    have hlow := h.timeoutLow (hsame ▸ hnone)
    exact ⟨by bv_omega, fun _ => by bv_omega⟩
  · exact ⟨hreload.le, fun _ => hreload ▸ hT⟩

/-- R36: the quiet countdown is at most its reload. -/
theorem runCycle_quiet_le : t.quietCounter.toNat ≤ s.cfg.quietReload.toNat := by
  have hhigh := h.quietHigh
  rw [post.quiet]
  split_ifs
  · exact Nat.zero_le _
  · bv_omega
  · exact le_rfl
  · exact hhigh

theorem padSideOk_run (hm : s.mode = .run) : PadSideOk t := by
  obtain ⟨hmode, hrounds, -, -, -, -, ⟨hcfg, -⟩, -⟩ := post.frame
  have hrun : t.mode = .run := hmode.trans hm
  have hprev : (fun i => (t.pad i).pressedPrev) = fun i => (s.pad i).pressed := funext (runCycle_pressedPrev post)
  obtain ⟨hthrLow, hthrHigh⟩ := runCycle_threshold_range h post
  obtain ⟨htimeoutHigh, htimeoutLow⟩ := runCycle_timeout_range h post
  exact {
    config := hcfg ▸ h.config
    constants := hcfg ▸ h.constants
    roundsInSeed := fun hseed => by simp [hrun] at hseed
    roundsInCal := fun hcal => by simp [hrun] at hcal
    roundsInRun := fun _ => hrounds ▸ h.roundsInRun hm
    idleBeforeRun := fun hbefore => absurd hrun hbefore
    keyIsLast := post.last
    prevKeyIsLast := by rw [hprev, post.prev]; exact h.keyIsLast
    thresholdLow := hthrLow
    thresholdHigh := hthrHigh
    timeoutHigh := hcfg ▸ htimeoutHigh
    timeoutLow := htimeoutLow
    quietHigh := hcfg ▸ runCycle_quiet_le h post
    deltaRange := runCycle_delta_range post }

end Run

theorem exec_keeps_padSide (i : Instr) (s t : State) (h : PadSideOk s) (ht : exec i s = .next t) : PadSideOk t := by
  by_cases hi : i = .cycle
  · subst hi
    cases cycle_cases ht with
    | stale _ hstale =>
      exact hstale ▸ padSideOk_of_same h rfl ⟨rfl, rfl, rfl, rfl, rfl, rfl, rfl⟩ fun _ => samePadButReading_refl _
    | seed _ hm hseed =>
      have hcount : RoundsByMode .cal 0 := Nat.zero_lt_succ 14
      exact hseed ▸ padSideOk_calibrationUpdate h (by simp [hm]) (fun _ => ⟨rfl, rfl, rfl⟩) hcount fun _ _ => rfl
    | round _ hm hr hround =>
      have hlow := h.roundsInCal hm
      have hnot := mt (calRounds_last_iff h.constants).mpr hr
      have hcount : RoundsByMode .cal (s.calRounds + 1) := by
        rw [RoundsByMode, calRounds_succ_toNat hlow]
        omega
      exact hround ▸ padSideOk_calibrationUpdate h (by simp [hm]) (fun _ => ⟨rfl, rfl, rfl⟩) (hm ▸ hcount) fun _ _ => rfl
    | last _ hm hr hlast =>
      have hrounds : s.cfg.constants.calRounds = 15 := congrArg Constants.calRounds h.constants
      exact hlast ▸ padSideOk_calibrationUpdate h (by simp [hm]) (fun _ => ⟨rfl, rfl, rfl⟩) (hr.trans hrounds)
        fun hrun => absurd rfl hrun
    | run _ hm post => exact padSideOk_run h post hm
  · obtain ⟨⟨hcfg, -⟩, hkey, -, hpads⟩ := exec_frame_of_ne_cycle hi ht
    exact padSideOk_of_same h hcfg hkey hpads

/-- Settles O51: every command keeps the invariant and reset meets it; the other parts of a step move nothing it speaks
of. -/
theorem stepKeepsPadSide : Obligations.StepKeepsPadSide := fun _ _ hs h => by
  refine step_keeps (P := PadSideOk) (fun _ _ h => ?take) (fun _ _ h => ?respond) (fun _ h => ?flag) (fun s h => ?reset)
    exec_keeps_padSide hs h
  case take | respond | flag => exact padSideOk_of_same_pads h rfl ⟨rfl, rfl, rfl, rfl, rfl, rfl, rfl⟩ rfl
  case reset =>
    have hreset := resetMeetsPadSide s.cfg h.config h.constants
    exact padSideOk_of_same_pads hreset rfl ⟨rfl, rfl, rfl, rfl, rfl, rfl, rfl⟩ rfl

end PadSide
end Sys2Proof.Proofs

namespace Sys2Proof.Proofs
section NoiseRegisters
/-! The shift registers under repeated updates (spec/43_noise.md R184) and under other taps (93_implementation_defined.md
U12). -/

open Sys2Proof.Machine

/-! ### Each update is a bijection (R184 (a)) -/

theorem bitVec_eq_of_low_of_top {n : Nat} {r u : BitVec (n + 1)} (hlow : ∀ k, k < n → r.getLsbD k = u.getLsbD k)
    (htop : r.getLsbD n = u.getLsbD n) : r = u := by
  refine BitVec.eq_of_getLsbD_eq fun k hk => ?_
  obtain hk | rfl := Nat.lt_succ_iff_lt_or_eq.mp hk
  · exact hlow k hk
  · exact htop

/-- An update loses nothing: every bit but the top one moves up, and the feedback tells the top one. -/
theorem lfsr1Next_injective : Function.Injective (lfsr1Next Constants.source.lfsr1Taps) := by
  intro r u h
  have hlow : ∀ k, k < 15 → r.getLsbD k = u.getLsbD k := fun k hk => by
    rw [← lfsr1Next_bit_succ _ r k hk, h, lfsr1Next_bit_succ _ u k hk]
  have hfeedback := lfsr1Next_bit_zero Constants.source.lfsr1Taps r
  rw [h, lfsr1Next_bit_zero, feedback_lfsr1, feedback_lfsr1, hlow 14 (by decide), hlow 12 (by decide),
    hlow 4 (by decide)] at hfeedback
  exact bitVec_eq_of_low_of_top hlow (by simpa using hfeedback.symm)

/-- As `lfsr1Next_injective`, with the second register's taps. -/
theorem lfsr2Next_injective : Function.Injective (lfsr2Next Constants.source.lfsr2Taps) := by
  intro r u h
  have hlow : ∀ k, k < 14 → r.getLsbD k = u.getLsbD k := fun k hk => by
    rw [← lfsr2Next_bit_succ _ r k hk, h, lfsr2Next_bit_succ _ u k hk]
  have hfeedback := lfsr2Next_bit_zero Constants.source.lfsr2Taps r
  rw [h, lfsr2Next_bit_zero, feedback_lfsr2, feedback_lfsr2, hlow 13 (by decide)] at hfeedback
  exact bitVec_eq_of_low_of_top hlow (by simpa using hfeedback.symm)

theorem lfsr1Next_eq_zero_iff (r : BitVec 16) : lfsr1Next Constants.source.lfsr1Taps r = 0 ↔ r = 0 :=
  lfsr1Next_injective.eq_iff' (by decide)

theorem lfsr2Next_eq_zero_iff (r : BitVec 15) : lfsr2Next Constants.source.lfsr2Taps r = 0 ↔ r = 0 :=
  lfsr2Next_injective.eq_iff' (by decide)

/-- Settles O48: an injective update of finitely many values is a bijection, and 0 stays 0. -/
theorem noiseUpdateIsBijective : Obligations.NoiseUpdateIsBijective :=
  ⟨⟨Finite.injective_iff_bijective.mp lfsr1Next_injective, lfsr1Next_eq_zero_iff⟩,
    Finite.injective_iff_bijective.mp lfsr2Next_injective, lfsr2Next_eq_zero_iff⟩

/-! ### The first register's period (R184 (b)) -/

/-- The first register's update under the source's taps, on the register's number. -/
def lfsr1NextNat (n : Nat) : Nat := 2 * n % 65536 + (n / 2 ^ 15 + n / 2 ^ 14 + n / 2 ^ 12 + n / 2 ^ 4) % 2

theorem lfsr1Next_toNat (r : BitVec 16) :
    (lfsr1Next Constants.source.lfsr1Taps r).toNat = lfsr1NextNat r.toNat := by
  have hbit : ∀ k, (r.getLsbD k).toNat = r.toNat / 2 ^ k % 2 := fun k => by
    rw [BitVec.getLsbD, Nat.toNat_testBit]
  have hxor : ∀ x y : Bool, (x ^^ y).toNat = (x.toNat + y.toNat) % 2 := by decide
  rw [lfsr1Next, BitVec.toNat_concat, feedback_lfsr1, BitVec.toNat_setWidth]
  simp only [hxor, hbit, lfsr1NextNat]
  omega

/-- From the register's number `n` the first call that gives 1 is call `k`, call 0 being `n` itself. -/
def firstOneAt : Nat → Nat → Bool
  | 0, n => n == 1
  | k + 1, n => n != 1 && firstOneAt k (lfsr1NextNat n)

theorem firstOneAt_spec {x : Nat → Nat} (hx : ∀ k, x (k + 1) = lfsr1NextNat (x k)) (k j : Nat)
    (h : firstOneAt k (x j) = true) : x (j + k) = 1 ∧ ∀ i, i < k → x (j + i) ≠ 1 := by
  induction k generalizing j with
  | zero => exact ⟨beq_iff_eq.mp h, fun i hi => absurd hi (Nat.not_lt_zero i)⟩
  | succ k ih =>
    rw [firstOneAt, Bool.and_eq_true, bne_iff_ne, ← hx j] at h
    obtain ⟨hne, hrest⟩ := h
    obtain ⟨hone, hnot⟩ := ih (j + 1) hrest
    refine ⟨by rwa [Nat.add_right_comm, Nat.add_assoc] at hone, fun i hi => ?_⟩
    cases i with
    | zero => exact hne
    | succ i =>
      rw [← Nat.add_assoc, Nat.add_right_comm]
      exact hnot i (Nat.lt_of_succ_lt_succ hi)

/-- The spec's computation: after the first call from the seed, 3854 more calls. -/
theorem firstOneAt_seed : firstOneAt 3854 (lfsr1NextNat 1) = true := by decide +kernel

/-- Settles O49: the register's number follows `lfsr1NextNat`, and the computation finds the first 1 after call 0 at call
3855. -/
theorem firstRegisterHasPeriod3855 : Obligations.FirstRegisterHasPeriod3855 := by
  intro r h0 hr
  have hx : ∀ k, (r (k + 1)).toNat = lfsr1NextNat (r k).toNat := fun k => by rw [hr k, lfsr1Next_toNat]
  have h1 : firstOneAt 3854 (r 1).toNat = true := by
    rw [hx 0, h0]
    exact firstOneAt_seed
  obtain ⟨hone, hnot⟩ := firstOneAt_spec (x := fun k => (r k).toNat) hx 3854 1 h1
  refine ⟨BitVec.eq_of_toNat_eq hone, fun k hpos hk hrk => ?_⟩
  have hne := hnot (k - 1) (by omega)
  rw [Nat.add_sub_cancel' hpos, hrk] at hne
  exact hne rfl

/-! ### Other taps (U12) -/

/-- The feedback is the parity of the tapped bits that are set. -/
theorem feedback_eq_parity {n : Nat} (taps : List Nat) (r : BitVec n) :
    feedback taps r = decide ((taps.filter fun b => r.getLsbD b).length % 2 = 1) := by
  induction taps with
  | nil => rfl
  | cons b taps ih =>
    have hcons : feedback (b :: taps) r = (r.getLsbD b ^^ feedback taps r) := rfl
    rw [hcons, ih, List.filter_cons]
    cases r.getLsbD b with
    | false => simp
    | true =>
      simp only [if_true, List.length_cons, Bool.true_xor, ← decide_not, decide_eq_decide]
      omega

/-- Settles O56: the bits shift as under any taps, and the bit that enters is the feedback, a parity. -/
theorem noiseFollowsConfiguredTaps : Obligations.NoiseFollowsConfiguredTaps := fun s =>
  ⟨_, exec_noise s,
    ⟨(lfsr1Next_bit_zero _ s.lfsr1).trans (feedback_eq_parity _ _),
      (lfsr2Next_bit_zero _ s.lfsr2).trans (feedback_eq_parity _ _), rfl⟩,
    lfsr1Next_bit_succ _ s.lfsr1, lfsr2Next_bit_succ _ s.lfsr2⟩

end NoiseRegisters
end Sys2Proof.Proofs

namespace Sys2Proof.Proofs
section SoundSide
/-! The invariant of the sound side. A voice's own condition is `VoiceOk`; a command either leaves the selector and the
voices (`soundSideOk_of_same_voices`), or writes the counters of the voice it leaves selected and no other
(`soundSideOk_of_selected`): a trigger and a tick. -/

open Sys2Proof.Machine

/-- The condition on voice `v` between ticks (10_state.md R39 to R42). -/
def VoiceOk (c : Config) (selected : Bool) (v : VoiceId) (x : Voice) : Prop :=
  match v with
  | .bass => BassOk c x
  | .snare => SnareOk c selected x
  | .buzz => BuzzOk c selected x
  | .hihat => HihatOk c x

/-- R157: the pulse counter is from 1 to its reloads. -/
def PulseOk (c : Config) (n : U16) : Prop := 1 ≤ n.toNat ∧ n.toNat ≤ max c.pulsesActive.toNat c.pulsesRelaxed.toNat

theorem voiceOk_of_soundSide {s : State} (h : SoundSideOk s) (v : VoiceId) :
    VoiceOk s.cfg (s.sel == some v) v (s.voice v) := by
  cases v with
  | bass => exact h.bass
  | snare => exact h.snare
  | buzz => exact h.buzz
  | hihat => exact h.hihat

/-- A voice may always be left unselected. -/
theorem voiceOk_deselect {c : Config} {selected : Bool} {v : VoiceId} {x : Voice} (h : VoiceOk c selected v x) :
    VoiceOk c false v x := by
  cases v with
  | bass | hihat => exact h
  | snare | buzz =>
    obtain ⟨hphase, ⟨-, hdormant⟩ | hsounding⟩ := h
    · exact ⟨hphase, .inl ⟨rfl, hdormant⟩⟩
    · exact ⟨hphase, .inr hsounding⟩

theorem voiceOk_dormant (c : Config) (v : VoiceId) : VoiceOk c false v Voice.dormant := by
  cases v with
  | bass => exact ⟨Nat.zero_le _, .inl rfl⟩
  | snare => exact ⟨Nat.zero_le _, .inl ⟨rfl, rfl⟩⟩
  | buzz => exact ⟨rfl, .inl ⟨rfl, rfl⟩⟩
  | hihat => exact ⟨Nat.zero_le _, rfl, rfl⟩

/-- A triggered voice meets its condition: under R7 the snare's and the buzz's periods are at least 1. -/
theorem voiceOk_triggered {c : Config} (hok : c.ok = true) (v : VoiceId) : VoiceOk c true v (triggeredVoice c v) := by
  obtain ⟨-, -, -, -, -, -, -, -, -, -, hsnare, -, -, hbuzz⟩ := c.ok_iff.mp hok
  cases v with
  | bass => exact ⟨Nat.zero_le _, .inl rfl⟩
  | snare => exact ⟨Nat.zero_le _, .inr ⟨rfl, hsnare⟩⟩
  | buzz => exact ⟨rfl, .inr ⟨rfl, hbuzz⟩⟩
  | hihat => exact ⟨Nat.zero_le _, rfl, rfl⟩

theorem soundSideOk_of_voices {t : State} (hok : t.cfg.ok = true) (hk : t.cfg.constants = Constants.source)
    (hnoise : t.lfsr1 ≠ 0 ∧ t.lfsr2 ≠ 0) (hpulse : PulseOk t.cfg t.pulseCounter)
    (hvoices : ∀ v, VoiceOk t.cfg (t.sel == some v) v (t.voice v))
    (huntouched : t.sel = none → t.snd = false ∧ ∀ v, t.voice v = Voice.dormant) : SoundSideOk t := by
  obtain ⟨hnoise1, hnoise2⟩ := hnoise
  obtain ⟨hpulseLow, hpulseHigh⟩ := hpulse
  exact ⟨hok, hk, hnoise1, hnoise2, hpulseLow, hpulseHigh, hvoices .bass, hvoices .snare, hvoices .buzz, hvoices .hihat,
    huntouched⟩

/-- Settles O54: at reset every voice is dormant, the registers hold the seed and the pulse counter its relaxed reload. -/
theorem resetMeetsSoundSide : Obligations.ResetMeetsSoundSide := by
  intro c hok hk
  have hseed : c.constants.lfsrSeed = 1 := congrArg Constants.lfsrSeed hk
  obtain ⟨-, -, -, -, hrelaxed, -⟩ := c.ok_iff.mp hok
  refine soundSideOk_of_voices hok hk ⟨?noise1, ?noise2⟩ ⟨hrelaxed, le_max_right _ _⟩ (fun v => ?voices)
    fun _ => ⟨rfl, resetWith_voice c⟩
  case noise1 | noise2 => simp only [State.resetWith, hseed]; decide
  case voices => rw [resetWith_voice]; exact voiceOk_dormant c v

/-! ### The two ways a command can leave the voices -/

section Kept
variable {s t : State} (h : SoundSideOk s) (hcfg : t.cfg = s.cfg) (hnoise : t.lfsr1 ≠ 0 ∧ t.lfsr2 ≠ 0)
include h hcfg hnoise

theorem soundSideOk_of_same_voices (hpulse : PulseOk s.cfg t.pulseCounter) (hsel : t.sel = s.sel)
    (hvoices : t.voices = s.voices) (hsnd : t.snd = s.snd) : SoundSideOk t := by
  have hvoice : t.voice = s.voice := funext fun v => by rw [State.voice, State.voice, hvoices]
  refine soundSideOk_of_voices (hcfg ▸ h.config) (hcfg ▸ h.constants) hnoise (hcfg ▸ hpulse) (fun v => ?_) ?_
  · rw [hcfg, hsel, hvoice]
    exact voiceOk_of_soundSide h v
  · rw [hsel, hsnd, hvoice]
    exact h.untouched

theorem soundSideOk_of_selected {v : VoiceId} (hpulse : t.pulseCounter = s.pulseCounter) (hsel : t.sel = some v)
    (hv : VoiceOk s.cfg true v (t.voice v)) (hothers : ∀ u, u ≠ v → t.voice u = s.voice u) : SoundSideOk t := by
  have hold : PulseOk s.cfg s.pulseCounter := ⟨h.pulseLow, h.pulseHigh⟩
  refine soundSideOk_of_voices (hcfg ▸ h.config) (hcfg ▸ h.constants) hnoise (hcfg ▸ hpulse ▸ hold) (fun u => ?_)
    fun hnone => by simp [hsel] at hnone
  rw [hcfg, hsel]
  by_cases hu : u = v
  · subst hu
    rw [beq_self_eq_true]
    exact hv
  · rw [hothers u hu, beq_eq_false_iff_ne.mpr fun e => hu (Option.some.inj e).symm]
    exact voiceOk_deselect (voiceOk_of_soundSide h u)

end Kept

theorem soundSideOk_of_same {s t : State} (h : SoundSideOk s) (hcfg : t.cfg = s.cfg) (hsame : SameVoiceState s t)
    (hpulse : t.pulseCounter = s.pulseCounter) : SoundSideOk t := by
  obtain ⟨hsel, hvoices, ⟨hnoise1, hnoise2⟩, hsnd⟩ := hsame
  exact soundSideOk_of_same_voices h hcfg ⟨hnoise1 ▸ h.noise1, hnoise2 ▸ h.noise2⟩ (hpulse ▸ ⟨h.pulseLow, h.pulseHigh⟩)
    hsel hvoices hsnd

/-- A trigger keeps the invariant, whether `TRIG` or a RUN `CYCLE` gives it. -/
theorem soundSideOk_of_trigger {s t : State} {v : VoiceId} (h : SoundSideOk s) (hcfg : t.cfg = s.cfg)
    (hnoise : SameNoise s t) (hpulse : t.pulseCounter = s.pulseCounter) (hsel : t.sel = some v)
    (hvoices : t.voices = s.voices.set v.idx (triggeredVoice s.cfg v)) : SoundSideOk t := by
  obtain ⟨hnoise1, hnoise2⟩ := hnoise
  refine soundSideOk_of_selected h hcfg ⟨hnoise1 ▸ h.noise1, hnoise2 ▸ h.noise2⟩ hpulse hsel ?voice fun u hu => ?others
  case voice =>
    rw [State.voice, hvoices, Quad.get_set_same]
    exact voiceOk_triggered h.config v
  case others =>
    rw [State.voice, hvoices, Quad.get_set_ne _ _ _ _ fun e => hu (VoiceId.idx_injective e)]
    rfl

/-! ### The tick (R158 to R161, R165 (b)) -/

theorem advanceNoise_ne_zero {s : State} (h : SoundSideOk s) : (advanceNoise s).lfsr1 ≠ 0 ∧ (advanceNoise s).lfsr2 ≠ 0 := by
  rw [advanceNoise_lfsr1, advanceNoise_lfsr2, h.constants]
  exact ⟨mt (lfsr1Next_eq_zero_iff _).mp h.noise1, mt (lfsr2Next_eq_zero_iff _).mp h.noise2⟩

/-- A voice's tick draws one noise bit, or none. -/
theorem tickVoice_noise (s : State) : SameNoise s (tickVoice s) ∨ SameNoise (advanceNoise s) (tickVoice s) := by
  cases hsel : s.sel with
  | none => exact .inl (by rw [tickVoice_unselected hsel]; exact ⟨rfl, rfl⟩)
  | some v =>
    cases v with
    | bass =>
      rw [tickVoice_bass hsel]
      by_cases spent : bassTotal s.cfg ≤ (s.voice .bass).phase.toNat
      · exact .inl (by rw [tickBass_spent spent]; exact ⟨rfl, rfl⟩)
      · rw [tickBass_sounding spent]
        split_ifs
        · exact .inr ⟨rfl, rfl⟩
        · exact .inl ⟨rfl, rfl⟩
    | snare =>
      rw [tickVoice_snare hsel]
      by_cases spent : snareTotal s.cfg ≤ (s.voice .snare).phase.toNat
      · exact .inl (by rw [tickSnare_spent spent]; exact ⟨rfl, rfl⟩)
      by_cases one : (s.voice .snare).phase.toNat < s.cfg.snareP1Ticks.toNat
      · exact .inr (by rw [tickSnare_phase1 spent one]; exact ⟨rfl, rfl⟩)
      · exact .inr (by rw [tickSnare_phase2 spent one]; exact ⟨rfl, rfl⟩)
    | buzz => exact .inl (by rw [tickVoice_buzz hsel]; exact ⟨rfl, rfl⟩)
    | hihat =>
      rw [tickVoice_hihat hsel]
      by_cases spent : s.cfg.hihatTicks.toNat ≤ (s.voice .hihat).phase.toNat
      · exact .inl (by rw [tickHihat_spent spent]; exact ⟨rfl, rfl⟩)
      · exact .inr (by rw [tickHihat_sounding spent]; exact ⟨rfl, rfl⟩)

/-- Below a bound the count of ticks does not wrap and does not pass the bound. -/
theorem phase_succ_le {p : U16} {n : Nat} (h : ¬ n ≤ p.toNat) (hn : n ≤ 65535) :
    (p + 1).toNat = p.toNat + 1 ∧ (p + 1).toNat ≤ n := by
  have hsucc : (p + 1).toNat = p.toNat + 1 := by bv_omega
  omega

/-- The divider after one count is below its period. -/
theorem dividerNext_lt {div per : U16} (h : 1 ≤ per.toNat) : (dividerNext div per).toNat < per.toNat := by
  rw [dividerNext]
  split_ifs with hfires
  · exact h
  · simpa [dividerFires] using hfires

/-- The selected voice's tick keeps the voice's condition. -/
theorem tickVoice_voiceOk {s : State} {v : VoiceId} (hok : s.cfg.ok = true) (hsel : s.sel = some v)
    (hv : VoiceOk s.cfg true v (s.voice v)) : VoiceOk s.cfg true v ((tickVoice s).voice v) := by
  obtain ⟨-, -, -, -, -, -, -, -, hbass, -, hsnare, -, hsnareTotal, hbuzz⟩ := s.cfg.ok_iff.mp hok
  cases v with
  | bass =>
    rw [tickVoice_bass hsel]
    by_cases spent : bassTotal s.cfg ≤ (s.voice .bass).phase.toNat
    · rwa [tickBass_spent spent]
    · obtain ⟨hsucc, hle⟩ := phase_succ_le spent hbass
      rw [tickBass_sounding spent, State.setVoice_voice_same]
      refine ⟨hle, .inr ⟨?first, ?period, dividerNext_lt (bassPeriodAt_pos hok _)⟩⟩
      case first => rw [hsucc]; exact Nat.le_add_left _ _
      case period => rw [hsucc, Nat.add_sub_cancel]
  | snare =>
    rw [tickVoice_snare hsel]
    by_cases spent : snareTotal s.cfg ≤ (s.voice .snare).phase.toNat
    · rwa [tickSnare_spent spent]
    obtain ⟨-, ⟨hselected, -⟩ | ⟨hperiod, hdivider⟩⟩ := hv
    · cases hselected
    obtain ⟨-, hle⟩ := phase_succ_le spent hsnareTotal
    by_cases one : (s.voice .snare).phase.toNat < s.cfg.snareP1Ticks.toNat
    · rw [tickSnare_phase1 spent one, State.setVoice_voice_same]
      exact ⟨hle, .inr ⟨hperiod, dividerNext_lt (hperiod ▸ hsnare)⟩⟩
    · rw [tickSnare_phase2 spent one, State.setVoice_voice_same]
      exact ⟨hle, .inr ⟨hperiod, hdivider⟩⟩
  | buzz =>
    obtain ⟨hphase, ⟨hselected, -⟩ | ⟨hperiod, -⟩⟩ := hv
    · cases hselected
    rw [tickVoice_buzz hsel, tickBuzz, State.setVoice_voice_same]
    exact ⟨hphase, .inr ⟨hperiod, dividerNext_lt (hperiod ▸ hbuzz)⟩⟩
  | hihat =>
    rw [tickVoice_hihat hsel]
    by_cases spent : s.cfg.hihatTicks.toNat ≤ (s.voice .hihat).phase.toNat
    · rwa [tickHihat_spent spent]
    · obtain ⟨-, hperiod, hdivider⟩ := hv
      obtain ⟨-, hle⟩ := phase_succ_le spent (Nat.le_of_lt_succ s.cfg.hihatTicks.isLt)
      rw [tickHihat_sounding spent, State.setVoice_voice_same]
      exact ⟨hle, hperiod, hdivider⟩

theorem soundSideOk_tickVoice {s : State} (h : SoundSideOk s) : SoundSideOk (tickVoice s) := by
  cases hsel : s.sel with
  | none => rwa [tickVoice_unselected hsel]
  | some v =>
    have hv := voiceOk_of_soundSide h v
    rw [hsel, beq_self_eq_true] at hv
    have hnoise : (tickVoice s).lfsr1 ≠ 0 ∧ (tickVoice s).lfsr2 ≠ 0 := by
      obtain ⟨h1, h2⟩ | ⟨h1, h2⟩ := tickVoice_noise s
      · rw [h1, h2]
        exact ⟨h.noise1, h.noise2⟩
      · rw [h1, h2]
        exact advanceNoise_ne_zero h
    exact soundSideOk_of_selected h (tickVoice_cfg s) hnoise (tickVoice_pulseCounter s) ((tickVoice_sel s).trans hsel)
      (tickVoice_voiceOk h.config hsel hv)
      fun u hu => tickVoice_voice_ne s u fun e => hu (Option.some.inj (e.symm.trans hsel))

/-- R157: the count passes from 1 to a reload and never to 0. -/
theorem soundSideOk_countPulse {s : State} (h : SoundSideOk s) : SoundSideOk (countPulse s) := by
  obtain ⟨-, -, -, hactive, hrelaxed, -⟩ := s.cfg.ok_iff.mp h.config
  have hlow := h.pulseLow
  have hhigh := h.pulseHigh
  have hpulse : PulseOk s.cfg (countPulse s).pulseCounter := by
    obtain ⟨-, hreload, -⟩ | ⟨hne, hcount, -⟩ := countPulse_cases s
    · rw [hreload, pulseReload]
      split_ifs
      · exact ⟨hrelaxed, le_max_right _ _⟩
      · exact ⟨hactive, le_max_left _ _⟩
    · rw [hcount]
      have hpred : (s.pulseCounter - 1).toNat = s.pulseCounter.toNat - 1 := by bv_omega
      have hmore : s.pulseCounter.toNat ≠ 1 := fun e => hne (BitVec.eq_of_toNat_eq e)
      exact ⟨by omega, by omega⟩
  exact soundSideOk_of_same_voices h (countPulse_cfg s) ⟨by simpa using h.noise1, by simpa using h.noise2⟩ hpulse
    (countPulse_sel s) (countPulse_voices s) (countPulse_snd s)

/-! ### The commands and the step -/

theorem soundSideOk_respond {s : State} (h : SoundSideOk s) (r : Response) : SoundSideOk (s.respond r) :=
  soundSideOk_of_same h rfl ⟨rfl, rfl, ⟨rfl, rfl⟩, rfl⟩ rfl

theorem exec_keeps_soundSide (i : Instr) (s t : State) (h : SoundSideOk s) (ht : exec i s = .next t) : SoundSideOk t := by
  cases i with
  | nop | meas =>
    obtain rfl := Host.Outcome.next.inj ht
    exact soundSideOk_of_same h rfl ⟨rfl, rfl, ⟨rfl, rfl⟩, rfl⟩ rfl
  | noise =>
    obtain rfl := Host.Outcome.next.inj ht
    exact soundSideOk_of_same_voices h rfl (advanceNoise_ne_zero h) ⟨h.pulseLow, h.pulseHigh⟩ rfl rfl rfl
  | trig v =>
    obtain rfl := Host.Outcome.next.inj ht
    exact soundSideOk_of_trigger h rfl ⟨rfl, rfl⟩ rfl rfl rfl
  | tick =>
    obtain rfl := Host.Outcome.next.inj ht
    exact soundSideOk_countPulse (soundSideOk_tickVoice (soundSideOk_respond h _))
  | cycle =>
    cases cycle_cases ht with
    | run _ _ post =>
      obtain ⟨-, -, hsnd, hnoise, hpulse, -, ⟨hcfg, -⟩, -⟩ := post.frame
      obtain ⟨k, -, -, hsel, hvoices⟩ | ⟨-, -, hsel, hvoices⟩ := post.trig
      · exact soundSideOk_of_trigger h hcfg hnoise hpulse hsel hvoices
      · exact soundSideOk_of_same h hcfg ⟨hsel, hvoices, hnoise, hsnd⟩ hpulse
    | stale _ ht | seed _ _ ht | round _ _ _ ht | last _ _ _ ht =>
      exact ht ▸ soundSideOk_of_same h rfl ⟨rfl, rfl, ⟨rfl, rfl⟩, rfl⟩ rfl

/-- Settles O53: every command keeps the invariant and reset meets it; the other parts of a step move nothing it speaks
of. -/
theorem stepKeepsSoundSide : Obligations.StepKeepsSoundSide := fun _ _ hs h => by
  refine step_keeps (P := SoundSideOk) (fun _ _ h => ?take) (fun _ r h => soundSideOk_respond h r) (fun _ h => ?flag)
    (fun s h => ?reset) exec_keeps_soundSide hs h
  case take | flag => exact soundSideOk_of_same h rfl ⟨rfl, rfl, ⟨rfl, rfl⟩, rfl⟩ rfl
  case reset =>
    exact soundSideOk_of_same (resetMeetsSoundSide s.cfg h.config h.constants) rfl ⟨rfl, rfl, ⟨rfl, rfl⟩, rfl⟩ rfl

end SoundSide
end Sys2Proof.Proofs

namespace Sys2Proof.Proofs
section ConfigurationCheck
/-! The configuration check (spec/00_scope.md R7): conjunct by conjunct it is `Config.ok_iff`, so what is left is the sweep
law. -/

open Sys2Proof.Machine

/-- R7's three constraints on the sweep law. -/
def SweepRule (c : Config) : Prop :=
  bassPeriodAt c 0 = c.bassPeriodStart
    ∧ (∀ t u, t ≤ u → (bassPeriodAt c t).toNat ≤ (bassPeriodAt c u).toNat)
    ∧ ∀ t, c.bassGlissTicks.toNat ≤ t → bassPeriodAt c t = c.bassPeriodEnd

/-- The check of the sweep is R7's: the default law needs none, and a supplied law is its table read with `BASS_PERIOD_END`
past its end. -/
theorem sweepOk_iff {c : Config} (hstart : 1 ≤ c.bassPeriodStart.toNat)
    (hle : c.bassPeriodStart.toNat ≤ c.bassPeriodEnd.toNat) (hgliss : 1 ≤ c.bassGlissTicks.toNat) :
    c.sweepOk = true ↔ SweepRule c := by
  cases hlaw : c.bassPeriodTable with
  | none =>
    obtain ⟨-, hend, hzero, hmono⟩ := defaultSweepIsLinear c hlaw hstart hle hgliss
    exact iff_of_true (by rw [Config.sweepOk, hlaw]) ⟨hzero, hmono, hend⟩
  | some table =>
    have hfirst : table.getD 0 c.bassPeriodEnd = bassPeriodAt c 0 := by
      rw [bassPeriodAt, if_pos (Nat.lt_of_succ_le hgliss), hlaw]
    simp only [Config.sweepOk, hlaw, Bool.and_eq_true, beq_iff_eq, Config.rises_iff, hfirst,
      ← bassPeriodAt_table c table _ hlaw]
    constructor
    · rintro ⟨hzero, -, hmono⟩
      exact ⟨hzero, hmono, bassPeriodAt_end c⟩
    · rintro ⟨hzero, hmono, -⟩
      exact ⟨hzero, fun t => hzero ▸ hmono 0 t (Nat.zero_le t), hmono⟩

/-- Settles O10: the check's conjuncts are R7's, the sweep's by `sweepOk_iff`, and a step refuses where the check fails. -/
theorem configCheckIsTheRule : Obligations.ConfigCheckIsTheRule := by
  refine ⟨fun c hk => ?check, fun s hc => by simp only [step, hc]⟩
  have hfit : c.constants.fit = true := hk ▸ Constants.source_fit
  have hfactor : c.constants.timeoutFactor = 3 := congrArg Constants.timeoutFactor hk
  rw [c.ok_iff, hfactor]
  constructor
  · rintro ⟨-, hT, hT', hactive, hrelaxed, hstart, hle, hgliss, htotal, hsweep, hsnare, htail, hsnareTotal, hbuzz⟩
    exact ⟨⟨hT, hT'⟩, hactive, hrelaxed, ⟨hstart, hle⟩, hgliss, htotal, (sweepOk_iff hstart hle hgliss).mp hsweep, hsnare,
      htail, hsnareTotal, hbuzz⟩
  · rintro ⟨⟨hT, hT'⟩, hactive, hrelaxed, ⟨hstart, hle⟩, hgliss, htotal, hsweep, hsnare, htail, hsnareTotal, hbuzz⟩
    exact ⟨hfit, hT, hT', hactive, hrelaxed, hstart, hle, hgliss, htotal, (sweepOk_iff hstart hle hgliss).mpr hsweep, hsnare,
      htail, hsnareTotal, hbuzz⟩

end ConfigurationCheck
end Sys2Proof.Proofs

namespace Sys2Proof.Proofs
section Convergence
/-! Repeated averaging under a constant reading (spec/40_sensing_calibration.md R109). -/

open Sys2Proof.Machine

/-- From above, a round halves the distance, rounding down. -/
theorem avg16_above {b m : U16} (h : m.toNat ≤ b.toNat) :
    m.toNat ≤ (avg16 b m).toNat ∧ (avg16 b m).toNat - m.toNat = (b.toNat - m.toNat) / 2 := by
  rw [avg16_toNat]
  omega

/-- From below, a round halves the distance, rounding up. -/
theorem avg16_below {b m : U16} (h : b.toNat < m.toNat) :
    (avg16 b m).toNat < m.toNat ∧ m.toNat - (avg16 b m).toNat = (m.toNat - b.toNat + 1) / 2 := by
  rw [avg16_toNat]
  omega

/-- Halving a ceiling over `2 ^ k`, rounding up, gives the ceiling over `2 ^ (k + 1)`. -/
theorem ceil_halved (e k : Nat) : ((e + (2 ^ k - 1)) / 2 ^ k + 1) / 2 = (e + (2 ^ (k + 1) - 1)) / 2 ^ (k + 1) := by
  have hpos : 0 < 2 ^ k := Nat.two_pow_pos k
  have hsum : e + (2 ^ k - 1) + 2 ^ k = e + (2 ^ (k + 1) - 1) := by
    rw [pow_succ]
    omega
  rw [← Nat.add_div_right _ hpos, hsum, Nat.div_div_eq_div_mul, ← pow_succ]

section Rounds
variable {m : U16} {b : Nat → U16} (hb : ∀ k, b (k + 1) = avg16 (b k) m)
include hb

theorem rounds_above (h : m.toNat ≤ (b 0).toNat) (k : Nat) :
    m.toNat ≤ (b k).toNat ∧ (b k).toNat - m.toNat = ((b 0).toNat - m.toNat) / 2 ^ k := by
  induction k with
  | zero => exact ⟨h, by rw [pow_zero, Nat.div_one]⟩
  | succ k ih =>
    obtain ⟨hle, hgap⟩ := ih
    obtain ⟨hle', hgap'⟩ := avg16_above hle
    rw [hb k]
    exact ⟨hle', by rw [hgap', hgap, Nat.div_div_eq_div_mul, pow_succ]⟩

theorem rounds_below (h : (b 0).toNat < m.toNat) (k : Nat) :
    (b k).toNat < m.toNat ∧ m.toNat - (b k).toNat = (m.toNat - (b 0).toNat + (2 ^ k - 1)) / 2 ^ k := by
  induction k with
  | zero => exact ⟨h, by rw [pow_zero, Nat.sub_self, Nat.add_zero, Nat.div_one]⟩
  | succ k ih =>
    obtain ⟨hlt, hgap⟩ := ih
    obtain ⟨hlt', hgap'⟩ := avg16_below hlt
    rw [hb k]
    exact ⟨hlt', by rw [hgap', hgap, ceil_halved]⟩

end Rounds

/-- Settles O28: the floor and the ceiling by induction on the rounds; of a 16-bit distance fifteen halvings leave at most 1
from above and at most 2 from below. -/
theorem calibrationConverges : Obligations.CalibrationConverges := by
  intro m b hb
  refine ⟨fun k h => rounds_above hb h k, fun k h => rounds_below hb h k, ?fifteen⟩
  have hm := m.isLt
  have h0 := (b 0).isLt
  obtain h | h := Nat.lt_or_ge (b 0).toNat m.toNat
  · obtain ⟨hlt, hgap⟩ := rounds_below hb h 15
    omega
  · obtain ⟨hle, hgap⟩ := rounds_above hb h 15
    omega

end Convergence
end Sys2Proof.Proofs

namespace Sys2Proof.Proofs
section Interleaving
/-! What two commands can tell of each other (spec/60_exceptions.md R199, 42_voices.md R165 (c), 10_state.md R31). A `TICK`
sees the sound side, the pulse counter and whether the quiet countdown is 0 (`exec_tick_congr`); a `CYCLE` sees the pads and
the key state (`exec_cycle_congr`). -/

open Sys2Proof.Machine

theorem sameVoiceState_symm {s t : State} (h : SameVoiceState s t) : SameVoiceState t s := by
  obtain ⟨hsel, hvoices, ⟨h1, h2⟩, hsnd⟩ := h
  exact ⟨hsel.symm, hvoices.symm, ⟨h1.symm, h2.symm⟩, hsnd.symm⟩

theorem sameVoiceState_trans {s t u : State} (h : SameVoiceState s t) (k : SameVoiceState t u) : SameVoiceState s u := by
  obtain ⟨hsel, hvoices, ⟨h1, h2⟩, hsnd⟩ := h
  obtain ⟨ksel, kvoices, ⟨k1, k2⟩, ksnd⟩ := k
  exact ⟨ksel.trans hsel, kvoices.trans hvoices, ⟨k1.trans h1, k2.trans h2⟩, ksnd.trans hsnd⟩

theorem sameKeyState_symm {s t : State} (h : SameKeyState s t) : SameKeyState t s := by
  obtain ⟨h1, h2, h3, h4, h5, h6, h7⟩ := h
  exact ⟨h1.symm, h2.symm, h3.symm, h4.symm, h5.symm, h6.symm, h7.symm⟩

theorem sameKeyState_trans {s t u : State} (h : SameKeyState s t) (k : SameKeyState t u) : SameKeyState s u := by
  obtain ⟨h1, h2, h3, h4, h5, h6, h7⟩ := h
  obtain ⟨k1, k2, k3, k4, k5, k6, k7⟩ := k
  exact ⟨k1.trans h1, k2.trans h2, k3.trans h3, k4.trans h4, k5.trans h5, k6.trans h6, k7.trans h7⟩

/-- Two states that agree on every part are the same. -/
theorem state_eq_of_same {s t : State} (henv : SameEnv s t) (hpads : t.pads = s.pads) (hkey : SameKeyState s t)
    (hsound : SameVoiceState s t) (hpulse : t.pulseCounter = s.pulseCounter) (herr : SameErrors s t)
    (hresp : t.resp = s.resp) : t = s := by
  cases s
  cases t
  simp_all [SameEnv, SameKeyState, SameVoiceState, SameNoise, SameErrors]

/-! ### What a `TICK` sees -/

/-- `u` with the configuration and the sound side of `s`. -/
def withSound (u s : State) : State :=
  { u with cfg := s.cfg, sel := s.sel, voices := s.voices, lfsr1 := s.lfsr1, lfsr2 := s.lfsr2, snd := s.snd }

theorem withSound_of_same {s u : State} (hcfg : u.cfg = s.cfg) (h : SameVoiceState s u) : withSound u s = u := by
  obtain ⟨hsel, hvoices, ⟨h1, h2⟩, hsnd⟩ := h
  rw [withSound, ← hcfg, ← hsel, ← hvoices, ← h1, ← h2, ← hsnd]

/-- The selected voice's tick neither reads nor writes anything outside the sound side and the configuration. -/
theorem tickVoice_withSound (u s : State) : tickVoice (withSound u s) = withSound u (tickVoice s) := by
  have hvoice : (withSound u s).voice = s.voice := rfl
  have hcfg : (withSound u s).cfg = s.cfg := rfl
  have hsel' : (withSound u s).sel = s.sel := rfl
  cases hsel : s.sel with
  | none => rw [tickVoice_unselected hsel, tickVoice_unselected (hsel'.trans hsel)]
  | some v =>
    cases v with
    | bass =>
      rw [tickVoice_bass hsel, tickVoice_bass (hsel'.trans hsel)]
      simp only [tickBass, hvoice, hcfg]
      split_ifs <;> rfl
    | snare =>
      rw [tickVoice_snare hsel, tickVoice_snare (hsel'.trans hsel)]
      simp only [tickSnare, hvoice, hcfg]
      split_ifs <;> rfl
    | buzz =>
      rw [tickVoice_buzz hsel, tickVoice_buzz (hsel'.trans hsel)]
      rfl
    | hihat =>
      rw [tickVoice_hihat hsel, tickVoice_hihat (hsel'.trans hsel)]
      simp only [tickHihat, hvoice, hcfg]
      split_ifs <;> rfl

theorem tickVoice_congr {s u : State} (hcfg : u.cfg = s.cfg) (h : SameVoiceState s u) :
    SameVoiceState (tickVoice s) (tickVoice u) := by
  rw [← withSound_of_same hcfg h, tickVoice_withSound]
  exact ⟨rfl, rfl, ⟨rfl, rfl⟩, rfl⟩

theorem exec_tick_sound_congr {s u t v : State} (hcfg : u.cfg = s.cfg) (h : SameVoiceState s u)
    (ht : exec .tick s = .next t) (hv : exec .tick u = .next v) : SameVoiceState t v := by
  obtain rfl := Host.Outcome.next.inj ht
  obtain rfl := Host.Outcome.next.inj hv
  exact sameVoiceState_trans (sameVoiceState_symm (tick_sameVoiceState s))
    (sameVoiceState_trans (tickVoice_congr hcfg h) (tick_sameVoiceState u))

/-- Settles O47: the sound side after a `TICK` is that of the selected voice's tick, which sees no more. -/
theorem voicesSeeOnlyTheSoundSide : Obligations.VoicesSeeOnlyTheSoundSide := fun s u hcfg h =>
  ⟨_, _, exec_tick s, exec_tick u, exec_tick_sound_congr hcfg h (exec_tick s) (exec_tick u)⟩

/-- A `TICK` sees the quiet countdown only where the pulse counter reloads, and there only whether it is 0. -/
theorem exec_tick_congr {s u t v : State} (hcfg : u.cfg = s.cfg) (h : SameVoiceState s u)
    (hpulse : u.pulseCounter = s.pulseCounter) (hquiet : s.pulseCounter ≠ 1 ∨ (u.quietCounter = 0 ↔ s.quietCounter = 0))
    (ht : exec .tick s = .next t) (hv : exec .tick u = .next v) :
    SameVoiceState t v ∧ v.pulseCounter = t.pulseCounter ∧ v.resp = t.resp := by
  refine ⟨exec_tick_sound_congr hcfg h ht hv, ?_⟩
  obtain rfl := Host.Outcome.next.inj ht
  obtain rfl := Host.Outcome.next.inj hv
  obtain ⟨hone, hcount, hresp⟩ | ⟨hne, hcount, hresp⟩ := tick_pulse_cases s
  · obtain ⟨-, ucount, uresp⟩ | ⟨une, -⟩ := tick_pulse_cases u
    · have hsame : u.quietCounter = 0 ↔ s.quietCounter = 0 := hquiet.resolve_left fun hne => hne hone
      rw [hcount, hresp, ucount, uresp, pulseReload, pulseReload, hcfg]
      exact ⟨if_congr hsame rfl rfl, rfl⟩
    · exact absurd (hpulse.trans hone) une
  · obtain ⟨uone, -⟩ | ⟨-, ucount, uresp⟩ := tick_pulse_cases u
    · exact absurd (hpulse.symm.trans uone) hne
    · rw [hcount, hresp, ucount, uresp, hpulse]
      exact ⟨rfl, rfl⟩

/-- The frame of a `TICK`, of a state it answers. -/
theorem exec_tick_frame {s t : State} (ht : exec .tick s = .next t) :
    t.pads = s.pads ∧ SameEnv s t ∧ SameKeyState s t ∧ SameErrors s t := by
  obtain rfl := Host.Outcome.next.inj ht
  obtain ⟨hpads, henv, hkey, herr, -⟩ := tick_frame s
  exact ⟨hpads, henv, hkey, herr⟩

/-- The state a `MEAS` answers (R100). -/
def afterMeas (p : PadIdx) (a b : U16) (s : State) : State :=
  (s.setPad p { s.pad p with measured := avg16 a b, measValid := true }).respond Response.quiet

/-- What a `MEAS` does to the pads depends on the pads alone. -/
theorem afterMeas_pads_congr {s t : State} (h : t.pads = s.pads) (p : PadIdx) (a b : U16) :
    (afterMeas p a b t).pads = (afterMeas p a b s).pads := by
  simp only [afterMeas, State.respond_pads, State.setPad_pads, State.pad, h]

/-- Settles O45: a `MEAS` moves nothing a `TICK` sees and a `TICK` leaves the pads, so both orders make the same two
changes. -/
theorem tickCommutesWithMeas : Obligations.TickCommutesWithMeas := by
  intro s p a b
  obtain ⟨ticked, htick⟩ := exec_completes .tick s
  obtain ⟨tickedLast, hlast⟩ := exec_completes .tick (afterMeas p a b s)
  obtain ⟨hpads, ⟨hcfg, hinputs⟩, hkey, hillegal, hstale⟩ := exec_tick_frame htick
  obtain ⟨kpads, ⟨kcfg, kinputs⟩, kkey, killegal, kstale⟩ := exec_tick_frame hlast
  obtain ⟨hsound, hpulse, hresp⟩ :=
    exec_tick_congr (s := s) (u := afterMeas p a b s) rfl ⟨rfl, rfl, ⟨rfl, rfl⟩, rfl⟩ rfl (.inr Iff.rfl) htick hlast
  refine ⟨ticked, afterMeas p a b s, tickedLast, afterMeas p a b ticked, htick, exec_meas p a b ticked, exec_meas p a b s,
    hlast, hresp, rfl, ?_⟩
  exact state_eq_of_same ⟨kcfg.trans hcfg.symm, kinputs.trans hinputs.symm⟩
    (kpads.trans (afterMeas_pads_congr hpads p a b).symm) (sameKeyState_trans (sameKeyState_symm hkey) kkey) hsound hpulse
    ⟨killegal.trans hillegal.symm, kstale.trans hstale.symm⟩ rfl

/-! ### What a `CYCLE` sees -/

theorem adaptThreshold_congr {s u : State} (hcfg : u.cfg = s.cfg) (hpad : u.pad = s.pad) (hthr : u.threshold = s.threshold)
    (thr0 : U16) (key : Option PadIdx) : (adaptThreshold thr0 key u).threshold = (adaptThreshold thr0 key s).threshold := by
  cases key with
  | none =>
    simp only [adaptThreshold, adaptIdle, hcfg, hpad]
    cases padsAscending.find? fun i => decide (s.cfg.constants.minLevel < (s.pad i).delta.toInt) with
    | none => exact hthr
    | some i => rfl
  | some a =>
    simp only [adaptThreshold, adaptPressed, hcfg, hpad]
    split_ifs
    · rfl
    · exact hthr

theorem fresh_congr {s u : State} (hpads : u.pads = s.pads) : Fresh u ↔ Fresh s := by
  simp only [Fresh, State.pad, hpads]

theorem response_eq_of_fields {x y : Response} (hwake : y.wake = x.wake) (hnbit : y.nbit = x.nbit)
    (htrig : y.evTrig = x.evTrig) (hrecover : y.evRecover = x.evRecover) : y = x := by
  cases x
  cases y
  simp_all

theorem pad_eq_of_fields {x y : Pad} (hbaseline : y.baseline = x.baseline) (hmeasured : y.measured = x.measured)
    (hvalid : y.measValid = x.measValid) (hdelta : y.delta = x.delta) (hbackup : y.backup = x.backup)
    (hpressed : y.pressed = x.pressed) (hprev : y.pressedPrev = x.pressedPrev) : y = x := by
  cases x
  cases y
  simp_all

/-- Agreement on what a `CYCLE` sees, the configuration apart. -/
def SameCycleSide (s t : State) : Prop := t.pads = s.pads ∧ SameKeyState s t

/-- Two RUN cycles that leave the same pads trigger the same voice, or none. -/
theorem runCycle_trigger_congr {s u t v : State} (hcfg : u.cfg = s.cfg) (hpad : v.pad = t.pad) (post : RunPost s t)
    (post' : RunPost u v) :
    v.resp.evTrig = t.resp.evTrig ∧ (u.sel = s.sel → v.sel = t.sel) ∧ (u.voices = s.voices → v.voices = t.voices) := by
  obtain ⟨i, hlast, htrig, hsel, hvoices⟩ | ⟨hlast, htrig, hsel, hvoices⟩ := post.trig
  · rw [← hpad] at hlast
    obtain ⟨ktrig, ksel, kvoices⟩ := runCycle_edge post' hlast
    rw [hcfg] at ktrig ksel kvoices
    exact ⟨ktrig.trans htrig.symm, fun _ => ksel.trans hsel.symm, fun h => by rw [kvoices, hvoices, h]⟩
  · rw [← hpad] at hlast
    obtain ⟨ktrig, ksel, kvoices⟩ := runCycle_no_edge post' hlast
    exact ⟨ktrig.trans htrig.symm, fun h => by rw [ksel, hsel, h], fun h => by rw [kvoices, hvoices, h]⟩

/-- Two RUN cycles that see the same do the same: each field of `RunPost` is given by what the cycle sees. -/
theorem runPost_congr {s u t v : State} (hcfg : u.cfg = s.cfg) (h : SameCycleSide s u) (post : RunPost s t)
    (post' : RunPost u v) :
    SameCycleSide t v ∧ v.resp = t.resp ∧ (u.sel = s.sel → v.sel = t.sel) ∧ (u.voices = s.voices → v.voices = t.voices) := by
  obtain ⟨hpads, hmode, hrounds, hthr, hkey, -, htimeout, hquiet⟩ := h
  have hpad : u.pad = s.pad := funext fun i => by rw [State.pad, State.pad, hpads]
  have hkey' : v.activeKey = t.activeKey := by rw [post'.key, post.key, hpads, hthr]
  have hrec : v.resp.evRecover = t.resp.evRecover := by
    rw [Bool.eq_iff_iff, post'.recov, post.recov, hkey', hkey, htimeout]
  have hthr' : v.threshold = t.threshold := by
    have hjudged : (judgePads u).pad = (judgePads s).pad := funext fun i => by
      rw [judgePads_pad, judgePads_pad, hpad, hthr]
    rw [post'.thr, post.thr, hrec, hkey', hcfg, hthr,
      adaptThreshold_congr (s := judgePads s) (u := judgePads u) hcfg hjudged hthr]
  have hpad' : ∀ i, v.pad i = t.pad i := fun i => by
    obtain ⟨hprev, hdelta, hpressed, hmeasured, hbackup, hvalid⟩ := post.pad i
    obtain ⟨kprev, kdelta, kpressed, kmeasured, kbackup, kvalid⟩ := post'.pad i
    rw [hpad] at kprev kdelta kpressed kmeasured kbackup
    rw [hthr] at kdelta kpressed
    refine pad_eq_of_fields ?_ (kmeasured.trans hmeasured.symm) (kvalid.trans hvalid.symm) (kdelta.trans hdelta.symm)
      (kbackup.trans hbackup.symm) (kpressed.trans hpressed.symm) (kprev.trans hprev.symm)
    rw [post'.base i, post.base i, hrec, hkey', hcfg, hthr, hpad]
  obtain ⟨htrig, hsel, hvoices⟩ := runCycle_trigger_congr hcfg (funext hpad') post post'
  obtain ⟨fmode, frounds, -, -, -, -, -, hwake, hnbit⟩ := post.frame
  obtain ⟨gmode, grounds, -, -, -, -, -, kwake, knbit⟩ := post'.frame
  refine ⟨⟨Quad.ext_get _ _ hpad', ?mode, ?rounds, hthr', hkey', ?prev, ?timeout, ?quiet⟩,
    response_eq_of_fields (kwake.trans hwake.symm) (knbit.trans hnbit.symm) htrig hrec, hsel, hvoices⟩
  case mode => rw [gmode, hmode, fmode]
  case rounds => rw [grounds, hrounds, frounds]
  case prev => rw [post'.prev, hkey, post.prev]
  case timeout => rw [post'.timeout, post.timeout, hkey', hkey, htimeout, hcfg]
  case quiet => rw [post'.quiet, post.quiet, hkey', hkey, hquiet, hcfg]

theorem calibrationUpdate_congr {s u : State} (h : SameCycleSide s u) (f : Pad → Pad) (mode : Mode) (rounds : BitVec 4) :
    SameCycleSide (calibrationUpdate f mode rounds s) (calibrationUpdate f mode rounds u) := by
  obtain ⟨hpads, -, -, hjudged⟩ := h
  exact ⟨congrArg (Quad.map f) hpads, rfl, rfl, hjudged⟩

/-- A `CYCLE` sees the pads, the key state and the configuration. -/
theorem exec_cycle_congr {s u t v : State} (hcfg : u.cfg = s.cfg) (h : SameCycleSide s u) (ht : exec .cycle s = .next t)
    (hv : exec .cycle u = .next v) :
    SameCycleSide t v ∧ v.resp = t.resp ∧ (u.sel = s.sel → v.sel = t.sel) ∧ (u.voices = s.voices → v.voices = t.voices) := by
  obtain ⟨hpads, hkey⟩ := h
  obtain ⟨hmode, hrounds, hjudged⟩ := hkey
  have hupdate := calibrationUpdate_congr ⟨hpads, hmode, hrounds, hjudged⟩
  have hfresh := fresh_congr hpads
  cases cycle_cases ht with
  | stale hf ht =>
    obtain rfl := Host.Outcome.next.inj ((exec_cycle_stale u (mt hfresh.mp hf)).symm.trans hv)
    exact ht ▸ ⟨⟨hpads, hmode, hrounds, hjudged⟩, rfl, id, id⟩
  | seed hf hm ht =>
    obtain rfl := Host.Outcome.next.inj ((exec_cycle_seed (hmode.trans hm) (hfresh.mpr hf)).symm.trans hv)
    exact ht ▸ ⟨hupdate _ _ _, rfl, id, id⟩
  | round hf hm hr ht =>
    rw [← hcfg, ← hrounds] at hr
    obtain rfl := Host.Outcome.next.inj ((exec_cycle_cal_round (hmode.trans hm) (hfresh.mpr hf) hr).symm.trans hv)
    rw [hmode, hrounds]
    exact ht ▸ ⟨hupdate _ _ _, rfl, id, id⟩
  | last hf hm hr ht =>
    rw [← hcfg, ← hrounds] at hr
    obtain rfl := Host.Outcome.next.inj ((exec_cycle_cal_last (hmode.trans hm) (hfresh.mpr hf) hr).symm.trans hv)
    rw [hrounds]
    exact ht ▸ ⟨hupdate _ _ _, rfl, id, id⟩
  | run hf hm post =>
    exact runPost_congr hcfg ⟨hpads, hmode, hrounds, hjudged⟩ post
      (RunPost.of_exec (hmode.trans hm) (hfresh.mpr hf) hv)

theorem exec_cycle_errStale_of_stale {s t : State} (hf : ¬ Fresh s) (ht : exec .cycle s = .next t) : t.errStale = true := by
  obtain rfl := Host.Outcome.next.inj ((exec_cycle_stale s hf).symm.trans ht)
  rfl

theorem exec_cycle_errStale_congr {s u t v : State} (hpads : u.pads = s.pads) (hstale : u.errStale = s.errStale)
    (ht : exec .cycle s = .next t) (hv : exec .cycle u = .next v) : v.errStale = t.errStale := by
  have hfresh := fresh_congr hpads
  by_cases hf : Fresh s
  · rw [exec_cycle_errStale (hfresh.mpr hf) hv, exec_cycle_errStale hf ht, hstale]
  · rw [exec_cycle_errStale_of_stale (mt hfresh.mp hf) hv, exec_cycle_errStale_of_stale hf ht]

/-- Settles O46: the `TICK` moves nothing the `CYCLE` sees, and the `CYCLE`, which triggers no voice, nothing the `TICK`
sees; the part each writes is the same in both orders. -/
theorem tickCommutesWithCycle : Obligations.TickCommutesWithCycle := by
  intro s cycled ticked hcycle htick hev hquiet
  obtain ⟨tickedLast, htl⟩ := exec_completes .tick cycled
  obtain ⟨cycledLast, hcl⟩ := exec_completes .cycle ticked
  obtain ⟨⟨ccfg, cinputs⟩, csnd, cnoise, cpulse, cillegal⟩ := exec_cycle_frame hcycle
  obtain ⟨csel, cvoices⟩ := exec_cycle_voices hcycle hev
  obtain ⟨kpads, ⟨kcfg, kinputs⟩, kkey, killegal, kstale⟩ := exec_tick_frame htick
  obtain ⟨hsound, hpulse, hresp⟩ := exec_tick_congr ccfg ⟨csel, cvoices, cnoise, csnd⟩ cpulse hquiet htick htl
  obtain ⟨⟨hpads, hkey⟩, hresp', -⟩ := exec_cycle_congr kcfg ⟨kpads, kkey⟩ hcycle hcl
  have hstale := exec_cycle_errStale_congr kpads kstale hcycle hcl
  obtain ⟨lpads, ⟨lcfg, linputs⟩, lkey, lillegal, lstale⟩ := exec_tick_frame htl
  obtain ⟨⟨mcfg, minputs⟩, msnd, mnoise, mpulse, millegal⟩ := exec_cycle_frame hcl
  obtain ⟨msel, mvoices⟩ := exec_cycle_voices hcl (hresp' ▸ hev)
  have hheld : SameVoiceState ticked cycledLast := ⟨msel, mvoices, mnoise, msnd⟩
  refine ⟨tickedLast, cycledLast, htl, hcl, hresp, hresp', ?_⟩
  refine state_eq_of_same ⟨?cfg, ?inputs⟩ (lpads.trans hpads.symm) (sameKeyState_trans (sameKeyState_symm hkey) lkey)
    (sameVoiceState_trans (sameVoiceState_symm hheld) hsound) (hpulse.trans mpulse.symm) ⟨?illegal, lstale.trans hstale.symm⟩
    rfl
  case cfg => exact (lcfg.trans ccfg).trans (mcfg.trans kcfg).symm
  case inputs => exact (linputs.trans cinputs).trans (minputs.trans kinputs).symm
  case illegal => exact (lillegal.trans cillegal).trans (millegal.trans killegal).symm

/-! ### What no command sees (R31) -/

/-- `s` with other error flags. -/
def withFlags (x y : Bool) (s : State) : State := { s with errIllegal := x, errStale := y }

/-- A `CYCLE` does the same with other flags: neither is among what it sees. -/
theorem exec_cycle_withFlags {s t u : State} (x y : Bool) (ht : exec .cycle s = .next t)
    (hu : exec .cycle (withFlags x y s) = .next u) : u = withFlags u.errIllegal u.errStale t := by
  obtain ⟨⟨hcfg, hinputs⟩, hsnd, ⟨h1, h2⟩, hpulse, -⟩ := exec_cycle_frame ht
  obtain ⟨⟨kcfg, kinputs⟩, ksnd, ⟨k1, k2⟩, kpulse, -⟩ := exec_cycle_frame hu
  obtain ⟨⟨hpads, hkey⟩, hresp, hsel, hvoices⟩ :=
    exec_cycle_congr (s := s) (u := withFlags x y s) rfl ⟨rfl, rfl, rfl, rfl, rfl, rfl, rfl, rfl⟩ ht hu
  exact state_eq_of_same ⟨kcfg.trans hcfg.symm, kinputs.trans hinputs.symm⟩ hpads hkey
    ⟨hsel rfl, hvoices rfl, ⟨k1.trans h1.symm, k2.trans h2.symm⟩, ksnd.trans hsnd.symm⟩ (kpulse.trans hpulse.symm)
    ⟨rfl, rfl⟩ hresp

/-- A command other than `CYCLE` does the same with other flags, and leaves them. -/
theorem exec_withFlags_of_ne_cycle {i : Instr} {s t : State} (x y : Bool) (hi : i ≠ .cycle) (ht : exec i s = .next t) :
    exec i (withFlags x y s) = .next (withFlags x y t) := by
  cases i with
  | cycle => exact absurd rfl hi
  | tick =>
    obtain ⟨u, hu⟩ := exec_completes .tick (withFlags x y s)
    obtain ⟨hpads, ⟨hcfg, hinputs⟩, hkey, -⟩ := exec_tick_frame ht
    obtain ⟨kpads, ⟨kcfg, kinputs⟩, kkey, kerr⟩ := exec_tick_frame hu
    obtain ⟨hsound, hpulse, hresp⟩ :=
      exec_tick_congr (s := s) (u := withFlags x y s) rfl ⟨rfl, rfl, ⟨rfl, rfl⟩, rfl⟩ rfl (.inr Iff.rfl) ht hu
    have hsame : u = withFlags x y t :=
      state_eq_of_same ⟨kcfg.trans hcfg.symm, kinputs.trans hinputs.symm⟩ (kpads.trans hpads.symm)
        (sameKeyState_trans (sameKeyState_symm hkey) kkey) hsound hpulse kerr hresp
    rw [hu, hsame]
  | nop | meas | trig | noise =>
    obtain rfl := Host.Outcome.next.inj ht
    rfl

/-- Settles O44: with other flags a command does all it did; a stale `CYCLE` sets `err_stale`, and no other command writes a
flag. -/
theorem errorFlagsAreInert : Obligations.ErrorFlagsAreInert := by
  intro i s t x y ht
  by_cases hi : i = .cycle
  · subst hi
    obtain ⟨u, hu⟩ := exec_completes .cycle (withFlags x y s)
    obtain ⟨-, -, -, -, hillegal⟩ := exec_cycle_frame hu
    refine ⟨u, hu, exec_cycle_withFlags x y ht hu, hillegal, fun ⟨_, hstale⟩ => ?stale, fun hfresh => ?fresh⟩
    case stale => exact exec_cycle_errStale_of_stale (s := withFlags x y s) hstale hu
    case fresh => exact exec_cycle_errStale (s := withFlags x y s) (not_not.mp fun hf => hfresh ⟨rfl, hf⟩) hu
  · exact ⟨_, exec_withFlags_of_ne_cycle x y hi ht, rfl, rfl, fun ⟨hcycle, _⟩ => absurd hcycle hi, fun _ => rfl⟩

end Interleaving
end Sys2Proof.Proofs

namespace Sys2Proof.Proofs
section Repetition
/-! Repeated commands (spec/20_memory.md R64), and the wire forms of the ports (10_state.md R31, R34). -/

open Sys2Proof.Machine

theorem quad_set_set_same {α : Type} (q : Quad α) (i : Fin 4) (x y : α) : (q.set i x).set i y = q.set i y := by
  match i with
  | 0 | 1 | 2 | 3 => rfl

/-- A second `MEAS` with the same operands finds what it writes. -/
theorem afterMeas_idem (p : PadIdx) (a b : U16) (s : State) : afterMeas p a b (afterMeas p a b s) = afterMeas p a b s := by
  have hpads : (afterMeas p a b (afterMeas p a b s)).pads = (afterMeas p a b s).pads := by
    simp only [afterMeas, State.respond_pads, State.setPad_pads, State.respond_pad, State.setPad_pad_same,
      quad_set_set_same]
  exact state_eq_of_same ⟨rfl, rfl⟩ hpads ⟨rfl, rfl, rfl, rfl, rfl, rfl, rfl⟩ ⟨rfl, rfl, ⟨rfl, rfl⟩, rfl⟩ rfl ⟨rfl, rfl⟩ rfl

/-- The reset state with four fresh measurements of 0: a first `CYCLE` from it is a SEED cycle. -/
def freshReset : State := State.reset.mapPads fun p => { p with measValid := true }

/-- Settles O57: `NOP` and `MEAS` find what they write. A second `CYCLE` is stale, a `TICK` counts the pulse counter and a
`NOISE` draws from the seed again. A `TRIG` reports its event from any state, and after a tick writes back the counters the
tick moved. -/
theorem repeatedCommands : Obligations.RepeatedCommands := by
  refine ⟨?idempotent, ?again, fun v => ⟨fun s t _ => ⟨_, exec_trig v t, rfl⟩, ?voice⟩⟩
  case idempotent =>
    rintro i s t (rfl | ⟨p, a, b, rfl⟩) ht
    · obtain rfl := Host.Outcome.next.inj ht
      rfl
    · obtain rfl := Host.Outcome.next.inj ht
      exact congrArg Host.Outcome.next (afterMeas_idem p a b s)
  case again =>
    rintro i (rfl | rfl | rfl)
    · exact ⟨freshReset, _, _, rfl, rfl, by decide⟩
    · exact ⟨State.reset, _, _, rfl, rfl, by decide⟩
    · exact ⟨State.reset, _, _, rfl, rfl, by decide⟩
  case voice =>
    refine ⟨trigger v State.reset, _, _, rfl, exec_tick _, exec_trig v _, ?_⟩
    cases v <;> decide

/-! ### The ports -/

/-- Settles O50: the wire form of each of the five values of an `Option`, and of each of the four pairs of flags. -/
theorem portEncodings : Obligations.PortEncodings := by
  refine ⟨rfl, by decide, fun o => ?wires, fun s => ?err⟩
  case wires =>
    cases o with
    | none => decide
    | some i => revert i; decide
  case err =>
    rw [errPort]
    cases s.errStale <;> cases s.errIllegal <;> rfl

end Repetition
end Sys2Proof.Proofs
